-- ==== Sys2Proof/Word.lean ====
section
/-!
DEFINITION. The words of the control link and of the field line, and the tick counter's word (R1, R185).
-/

namespace Sys2Proof

/-- One byte of a frame on the control link or the field line. -/
abbrev Byte := BitVec 8

/-- A two-byte number of a frame: a station number, a host label, a host reference, a tick parameter (R185). -/
abbrev Half := BitVec 16

/-- A value of the tick counter, a stamp or a deadline: a 32-bit count that wraps (R1). -/
abbrev Tick := BitVec 32

end Sys2Proof
end

