-- ==== Sys2Proof/Config.lean ====
section
/-!
DEFINITION. What one FX3120 fixes: how many records of each kind it holds (00_scope.md, "Names and numbers"), and the
capacities of its lists. The part has no free value and nothing that an implementation decides.
-/

namespace Sys2Proof

/-- Stations 0..383. -/
abbrev StationId := Fin 384
/-- Calls 0..191. -/
abbrev CallId := Fin 192
/-- Hunt groups 0..63. -/
abbrev GroupId := Fin 64
/-- Pickup groups 0..47. -/
abbrev PickupId := Fin 48
/-- Park orbits 0..31. -/
abbrev OrbitId := Fin 32
/-- Service classes 0..3. -/
abbrev ClassId := Fin 4
/-- Directories 0..7. -/
abbrev DirectoryId := Fin 8
/-- Code entries 0..127. -/
abbrev EntryId := Fin 128
/-- Page group entries 0..63. -/
abbrev PageGroupId := Fin 64
/-- Pages 0..15. -/
abbrev PageId := Fin 16
/-- Page buses 0..7. -/
abbrev BusId := Fin 8
/-- Source slots 0..15 of the bus highway. -/
abbrev SlotId := Fin 16
/-- Zones 0..47. -/
abbrev ZoneId := Fin 48
/-- Zone modules 0..23. -/
abbrev ModuleId := Fin 24
/-- Alert channels 0..15. -/
abbrev ChannelId := Fin 16
/-- Generated tones 0..3 (R115). -/
abbrev ToneId := Fin 4
/-- A call or page priority 0..3, a higher number being a higher priority. -/
abbrev Priority := Fin 4

namespace Config

/-- The member pool holds 1024 entries (R27). -/
abbrev poolSize : Nat := 1024
/-- A hunt group has at most 32 members (R28). -/
abbrev memberLimit : Nat := 32
/-- A station stands in at most 4 member lists (R27). -/
abbrev membershipLimit : Nat := 4
/-- The report queue holds at most 64 reports (R170). -/
abbrev reportLimit : Nat := 64
/-- The reply list holds at most 8 replies (R168). -/
abbrev replyLimit : Nat := 8
/-- No call's redirect count exceeds 3 (R60). -/
abbrev redirectLimit : Nat := 3
/-- A page group chain is followed for at most four hops (R102). -/
abbrev hopLimit : Nat := 4
/-- A part of a long query reply holds at most 55 field bytes (R186). -/
abbrev partSize : Nat := 55
/-- A save completes 1 to 40 ticks after it began (R181). -/
abbrev saveSpan : Nat := 40
/-- Credits stay within -32768..32767 (R40). -/
abbrev creditMax : Int := 32767
/-- Credits stay within -32768..32767 (R40). -/
abbrev creditMin : Int := -32768

end Config

end Sys2Proof
end

