-- ==== Sys2Proof/Syntax.lean ====
section
/-!
DEFINITION. The commands of the part: one constructor for each row of spec/opcode_table.json, in the table's order.
A request carries the header of its frame and its body fields as they were received, in the order and the widths of
table 11.2; its meaning checks their ranges. An event of the part itself (an expiry, an answer on the field line, the
end of a frame) carries what the event is about.
-/

namespace Sys2Proof

/-- What every request frame carries beside its body (9.1): the tag byte, and the length byte, which says how many body
bytes arrived. The body fields of a constructor are meaningful when the length is one that table 11.2 allows; a request of
another length is answered BAD LENGTH whatever its bytes are (R186). -/
structure Header where
  tag : Byte
  length : Byte
deriving DecidableEq, Repr

/-- The body of GROUP SET (table 11.2). -/
structure GroupSetBody where
  group : Byte
  action : Byte
  method : Byte
  noAnswer : Half
  wrapup : Half
  roundLimit : Byte
  queueLimit : Byte
  overflowGroup : Byte
  overflowTicks : Half
  nightGroup : Byte
  autoLogin : Byte
deriving DecidableEq, Repr

/-- The body of ANNOUNCE SET (table 11.2). -/
structure AnnounceSetBody where
  group : Byte
  pageGroup : Byte
  priority : Byte
  channel : Byte
  tone : Byte
  length : Half
  arrivalCount : Byte
  duringCount : Byte
  delay : Half
deriving DecidableEq, Repr

/-- The body of CLASS SET (table 11.2). -/
structure ClassSetBody where
  cls : Byte
  capabilities : Byte
  recallTicks : Half
  coverageTicks : Half
  directory : Byte
  entry : Byte
deriving DecidableEq, Repr

/-- The body of ENTRY SET (table 11.2). -/
structure EntrySetBody where
  entry : Byte
  pageGroup : Byte
  priority : Byte
  sourceKind : Byte
  preludeChannel : Byte
  preludeTone : Byte
  preludeTicks : Half
  maxDuration : Half
  waitTicks : Half
deriving DecidableEq, Repr

/-- The body of PAGE GROUP SET (table 11.2). Zone z is bit z of the zone set (R185). -/
structure PageGroupSetBody where
  pageGroup : Byte
  kind : Byte
  target : Byte
  zones : BitVec 48
  ceiling0 : Byte
  ceiling1 : Byte
  ceiling2 : Byte
  ceiling3 : Byte
  label : Half
deriving DecidableEq, Repr

/-- The commands. -/
inductive Instr where
  | stationSet (h : Header) (station : Half) (cls pickup coverage service : Byte) (label : Half)
  | groupSet (h : Header) (body : GroupSetBody)
  | memberAdd (h : Header) (group : Byte) (station : Half) (weight listPos prefPos : Byte)
  | memberRemove (h : Header) (group : Byte) (station : Half)
  | announceSet (h : Header) (body : AnnounceSetBody)
  | beaconSet (h : Header) (group zone channel : Byte) (debounce : Half)
  | pickupGroupSet (h : Header) (group count link0 link1 link2 : Byte)
  | classSet (h : Header) (body : ClassSetBody)
  | directorySet (h : Header) (directory base length : Byte)
  | entrySet (h : Header) (body : EntrySetBody)
  | pageGroupSet (h : Header) (body : PageGroupSetBody)
  | cadenceSet (h : Header) (channel slot : Byte) (period onTicks : Half)
  | moduleSet (h : Header) (moduleNo kind : Byte)
  | stationQuery (h : Header) (station : Half)
  | callQuery (h : Header) (call part : Byte)
  | groupQuery (h : Header) (group part : Byte)
  | pickupGroupQuery (h : Header) (group part : Byte)
  | orbitQuery (h : Header) (orbit : Byte)
  | classQuery (h : Header) (cls : Byte)
  | directoryQuery (h : Header) (directory : Byte)
  | entryQuery (h : Header) (entry : Byte)
  | pageGroupQuery (h : Header) (pageGroup : Byte)
  | pageQuery (h : Header) (page part : Byte)
  | busQuery (h : Header) (bus : Byte)
  | alertQuery (h : Header) (channel : Byte)
  | moduleQuery (h : Header) (moduleNo : Byte)
  | zoneQuery (h : Header) (zone : Byte)
  | storeQuery (h : Header)
  | status (h : Header)
  | groupMode (h : Header) (group mode : Byte)
  | storeSave (h : Header)
  | start (h : Header)
  | restart (h : Header)
  /-- The six STATION EVENT rows carry the event byte of the frame too: a byte that names none of the six events is
  refused BAD VALUE (R6), whichever of the six constructors carries it (assumption 5). -/
  | offHook (h : Header) (station : Half) (event : Byte)
  | onHook (h : Header) (station : Half) (event : Byte)
  | serviceOff (h : Header) (station : Half) (event : Byte)
  | serviceOn (h : Header) (station : Half) (event : Byte)
  | dndOn (h : Header) (station : Half) (event : Byte)
  | dndOff (h : Header) (station : Half) (event : Byte)
  | callOffer (h : Header) (kind : Byte) (target : Half) (priority : Byte) (hostRef : Half)
  | callGone (h : Header) (call generation : Byte)
  | memberLogin (h : Header) (station : Half) (group : Byte)
  | memberLogout (h : Header) (station : Half) (group : Byte)
  | groupPickup (h : Header) (station : Half) (call generation : Byte)
  | directedPickup (h : Header) (station target : Half) (generation : Byte)
  | queuePickup (h : Header) (station : Half) (group : Byte)
  | park (h : Header) (station : Half) (orbit announce directory entry : Byte)
  | retrieve (h : Header) (station : Half) (orbit generation : Byte)
  | page (h : Header) (requester : Half) (directory entry source : Byte)
  | pageEnd (h : Header) (page generation : Byte) (requester : Half)
  | summon (h : Header) (requester : Half) (group : Byte)
  | summonHush (h : Header) (requester : Half) (group : Byte)
  | zoneRestore (h : Header) (zone generation : Byte)
  | zoneService (h : Header) (zone setting : Byte)
  /-- A complete frame with a good sum whose kind byte is no request kind. -/
  | unknownRequest (h : Header) (kind : Byte)
  /-- A complete frame with a bad sum; the bytes are those of the frame. -/
  | frameSumError (frame : List Byte)
  /-- More than 5 ms inside a frame: the bytes received after those the framer already held, and the byte that ends the
  gap. -/
  | frameGap (received : List Byte) (next : Byte)
  /-- The first two bytes of a frame, the second being a length above 60. -/
  | frameLengthError (kind length : Byte)
  | framerSilence
  /-- A complete frame that arrives while the reply list is full. -/
  | frameOverrun (frame : List Byte)
  | transmitFrameEnd
  | warmRestart
  | powerOn
  | resetPin
  /-- The end of a save; the flag says whether the sum read back agrees with the sum written. -/
  | saveCompletion (agree : Bool)
  | wrapupExpiry (station : StationId)
  | coverageExpiry (call : CallId)
  | noAnswerExpiry (call : CallId)
  | ringAllExpiry (call : CallId)
  | recallRingExpiry (call : CallId)
  | overflowExpiry (call : CallId)
  | announceDelayExpiry (group : GroupId)
  | debounceExpiry (group : GroupId)
  | recallExpiry (orbit : OrbitId)
  | waitTimeout (page : PageId)
  | endDeadlineExpiry (page : PageId)
  | preludeExpiry (page : PageId)
  | cadenceAdvance (channel : ChannelId)
  /-- An IDENTIFY answer: address, type code, revision (R188). -/
  | identifyAnswer (address kind revision : Byte)
  /-- A ROUTE answer: address, the two settings echoed. -/
  | routeAnswer (address settingA settingB : Byte)
  /-- A POLL answer: address, the two status words. -/
  | pollAnswer (address : Byte) (wordA wordB : Half)
  /-- A complete answer that fails a condition of R149. -/
  | invalidAnswer (frame : List Byte)
  | answerTimeout
  /-- A gap of more than 2 ms inside an answer: the bytes received, which are discarded. -/
  | answerGap (received : List Byte)
  | alertSent
  | fieldLineRestartHoldoff
  | tickCounterAdvance
  | frameDiscardedAtRestart (received : List Byte)
  | strayFieldLineBytes (received : List Byte)
deriving DecidableEq, Repr

end Sys2Proof
end

