-- ==== Sys2Proof/Machine/State.lean ====
section
/-!
DEFINITION. The state of the part, block by block as the manual divides it (00_scope.md, "Block diagram"), the two ways a
step could stop, and the machine right after reset. Every record has the fields of its field table, under the manual's
names; an absent field is `none`. State is plain data.
-/

namespace Sys2Proof.Machine

/-! ## Station and Call Table (chapter 1) -/

/-- The six station states of 1.3. -/
inductive StationState where
  | out | idle | ringing | talking | busy | wrapup
deriving DecidableEq, Repr

/-- Whether a station begins a cold reset in IDLE or in OUT. -/
inductive StartService where
  | inService | out
deriving DecidableEq, Repr

/-- The configured fields of a station (1.3, R15). -/
structure StationCfg where
  cls : ClassId
  pickup : Option PickupId
  coverage : Option GroupId
  startService : StartService
  label : Half
deriving DecidableEq, Repr

/-- The station record of 1.3. -/
structure Station where
  state : StationState
  call : Option CallId
  dnd : Bool
  cfg : StationCfg
  memberships : List GroupId
  ringGen : Byte
  idleSince : Tick
  wrapupDl : Option Tick
  voicePage : Option PageId
deriving DecidableEq, Repr

inductive CallKind where
  | group | direct
deriving DecidableEq, Repr

/-- The six call states of 1.4. -/
inductive CallState where
  | free | queued | ringing | connected | parked | recalling
deriving DecidableEq, Repr

/-- The call record of 1.4. The ringing set and the tried set are kept in ascending station number without repeats.
The announcement page is held with the generation it was created at (R88, R129). -/
structure Call where
  gen : Byte
  hostRef : Half
  kind : CallKind
  priority : Priority
  offerTick : Tick
  home : Option GroupId
  current : Option GroupId
  entryTick : Tick
  state : CallState
  ringing : List StationId
  tried : List StationId
  round : Nat
  redirects : Nat
  ringDl : Option Tick
  overflowDl : Option Tick
  answering : Option StationId
  orbit : Option OrbitId
  parker : Option StationId
  recallPending : Bool
  annPage : Option (PageId × Byte)
deriving DecidableEq, Repr

/-- The Station and Call Table. -/
structure Sct where
  tick : Tick
  stations : Vector Station 384
  calls : Vector Call 192
deriving DecidableEq, Repr

/-! ## Distribution Engine (chapters 2 and 3) -/

inductive ServiceState where
  | unused | inService | night | closed
deriving DecidableEq, Repr

inductive Method where
  | linear | circular | even | longestIdle | weighted | ringAll
deriving DecidableEq, Repr

/-- One member entry (2.2). The pool is not a second copy: an entry in use is an entry of some group's list (R27). -/
structure Member where
  station : StationId
  weight : Nat
  loggedIn : Bool
  offered : Bool
  credit : Int
deriving DecidableEq, Repr

/-- The distribution parameters of R25. -/
structure GroupCfg where
  method : Method
  noAnswer : Nat
  wrapup : Nat
  roundLimit : Nat
  queueLimit : Nat
  overflowGroup : Option GroupId
  overflowTicks : Nat
  nightGroup : Option GroupId
  autoLogin : Bool
deriving DecidableEq, Repr

/-- The announcement parameters of R67. -/
structure AnnParams where
  pageGroup : Option PageGroupId
  priority : Priority
  channel : ChannelId
  tone : ToneId
  length : Nat
  arrivalCount : Nat
  duringCount : Nat
  delay : Nat
deriving DecidableEq, Repr

inductive AnnState where
  | idle | armed | live
deriving DecidableEq, Repr

/-- The live announcement fields of 3.6. -/
structure AnnLive where
  state : AnnState
  counter : Nat
  delayDl : Option Tick
  live : Option (PageId × Byte)
deriving DecidableEq, Repr

/-- The beacon parameters of R74. -/
structure BeaconParams where
  zone : Option ZoneId
  channel : ChannelId
  debounce : Nat
deriving DecidableEq, Repr

inductive BeaconState where
  | off | on | debounce
deriving DecidableEq, Repr

/-- The live beacon fields of 3.7. -/
structure BeaconLive where
  state : BeaconState
  dl : Option Tick
deriving DecidableEq, Repr

/-- The hunt group record of 2.1, with the announcement and beacon of chapter 3. The queue is in queue order, head first. -/
structure Group where
  service : ServiceState
  cfg : GroupCfg
  members : List Member
  circ : Nat
  queue : List CallId
  annP : AnnParams
  ann : AnnLive
  beaconP : BeaconParams
  beacon : BeaconLive
deriving DecidableEq, Repr

/-- The Distribution Engine. -/
structure De where
  groups : Vector Group 64
deriving DecidableEq, Repr

/-! ## Pickup and Park Unit (chapter 4) -/

structure RingEntry where
  call : CallId
  start : Tick
deriving DecidableEq, Repr

/-- A pickup group: its linked groups in search order and its ring list, head first (4.1). -/
structure PickupGroup where
  links : List PickupId
  ring : List RingEntry
deriving DecidableEq, Repr

/-- One entry of the class table (4.2). The default announce code is a directory and an entry number. -/
structure ServiceClass where
  directed : Bool
  queuePickup : Bool
  park : Bool
  summon : Bool
  recallTicks : Nat
  coverageTicks : Nat
  announceCode : Option (DirectoryId × EntryId)
deriving DecidableEq, Repr

inductive OrbitState where
  | free | held
deriving DecidableEq, Repr

/-- A park orbit (4.4). -/
structure Orbit where
  state : OrbitState
  call : Option CallId
  gen : Byte
  parker : Option StationId
  recallDl : Option Tick
deriving DecidableEq, Repr

/-- The Pickup and Park Unit. The free order lists the FREE orbits, least recently released first (R86). -/
structure Ppu where
  pickups : Vector PickupGroup 48
  classes : Vector ServiceClass 4
  orbits : Vector Orbit 32
  freeOrder : List OrbitId
deriving DecidableEq, Repr

/-! ## Page Directory (chapter 5) -/

structure Directory where
  base : Nat
  length : Nat
deriving DecidableEq, Repr

inductive SourceKind where
  | voice | prompt
deriving DecidableEq, Repr

/-- A code entry (5.2); it is assigned when its page group is present. -/
structure CodeEntry where
  pageGroup : Option PageGroupId
  priority : Priority
  sourceKind : SourceKind
  preludeChannel : ChannelId
  preludeTone : ToneId
  preludeTicks : Nat
  maxDuration : Nat
  waitTicks : Nat
deriving DecidableEq, Repr

/-- What a page group entry names (5.3): nothing, a zone set in ascending zone order, or another page group. -/
inductive PageGroupKind where
  | empty
  | direct (zones : List ZoneId)
  | indirect (target : PageGroupId)
deriving DecidableEq, Repr

/-- The stored fields of a page group entry. An absent ceiling is NONE. -/
structure PageGroupCfg where
  kind : PageGroupKind
  ceilings : Vector (Option Priority) 4
  label : Half
deriving DecidableEq, Repr

structure PageGroup where
  cfg : PageGroupCfg
  referenced : Bool
deriving DecidableEq, Repr

/-- The Page Directory. -/
structure Pdir where
  directories : Vector Directory 8
  entries : Vector CodeEntry 128
  pageGroups : Vector PageGroup 64
deriving DecidableEq, Repr

/-! ## Paging Controller (chapter 6) -/

inductive PageState where
  | queued | prelude | playing | held | ended
deriving DecidableEq, Repr

inductive PageKind where
  | voice | prompt | tone
deriving DecidableEq, Repr

/-- Who asked for a page (6.1). -/
inductive Origin where
  | station (s : StationId)
  | console
  | groupAnnouncement (g : GroupId)
  | parkAnnouncement (c : CallId) (o : OrbitId) (gen : Byte)
deriving DecidableEq, Repr

/-- What a page's bus carries after the prelude (6.1). -/
inductive PageSource where
  | slot (n : SlotId)
  | prompt (n : Byte)
  | tone (k : ChannelId) (t : ToneId)
deriving DecidableEq, Repr

inductive EndCause where
  | released | expired | cut | noZones | withdrawn | waitTimeout
deriving DecidableEq, Repr

/-- The page record of 6.1. Its zone sets are kept in ascending zone order without repeats. -/
structure Page where
  gen : Byte
  state : PageState
  kind : PageKind
  origin : Origin
  priority : Priority
  requested : List ZoneId
  audible : List ZoneId
  suspended : List ZoneId
  beacons : List ZoneId
  bus : Option BusId
  source : PageSource
  preludeChannel : ChannelId
  preludeTone : ToneId
  preludeTicks : Nat
  maxDuration : Nat
  waitTicks : Nat
  codeEntry : Option EntryId
  chain : List PageGroupId
  requestTick : Tick
  startTick : Option Tick
  waitDl : Option Tick
  preludeDl : Option Tick
  endDl : Option Tick
  endCause : Option EndCause
deriving DecidableEq, Repr

/-- What a bus carries (6.2). -/
inductive BusSource where
  | silent
  | slot (n : SlotId)
  | tone (k : ChannelId) (t : ToneId)
  | prompt
deriving DecidableEq, Repr

structure Bus where
  page : Option PageId
  source : BusSource
deriving DecidableEq, Repr

/-- A route setting of a zone's module channel: a bus (speaker) or an alert channel (beacon), or off. -/
abbrev Setting := Option (Fin 16)

/-- The Paging Controller. The page queue is in queue order, head first (R114). -/
structure Pgc where
  pages : Vector Page 16
  queue : List PageId
  buses : Vector Bus 8
deriving DecidableEq, Repr

/-! ## Zones: FLC fields (8.2) and PGC fields (6.3) -/

inductive ZoneKind where
  | none | speaker | beacon
deriving DecidableEq, Repr

inductive ZoneService where
  | inService | faulted | outOfService
deriving DecidableEq, Repr

inductive FaultKind where
  | openLine | shortLine | overtemp | supply | noReply | typeMismatch
deriving DecidableEq, Repr

/-- The zone record: kind, service, latched fault, fault generation and load reading are the FLC's; the page it plays, the
preemption stack (bottom first), the alert channel a beacon zone follows and the desired route are the PGC's. -/
structure Zone where
  kind : ZoneKind
  service : ZoneService
  fault : Option FaultKind
  faultGen : Byte
  load : Option (BitVec 15)
  playing : Option PageId
  stack : List PageId
  follow : Option ChannelId
  route : Setting
deriving DecidableEq, Repr

/-! ## Alert Generator (chapter 7) -/

structure Cadence where
  period : Nat
  on : Nat
deriving DecidableEq, Repr

inductive Slot where
  | a | b
deriving DecidableEq, Repr

/-- The four kinds of claim of R137. -/
inductive ClaimKind where
  | prelude | tone | emergency | group
deriving DecidableEq, Repr

/-- The claims a channel holds, by kind; the user count is their sum (R137). -/
structure Claims where
  prelude : Nat
  tone : Nat
  emergency : Nat
  group : Nat
deriving DecidableEq, Repr

/-- The alert channel record of 7.1. -/
structure Channel where
  slotA : Cadence
  slotB : Cadence
  active : Slot
  pending : Bool
  running : Bool
  phase : Nat
  stepTick : Tick
  output : Bool
  claims : Claims
deriving DecidableEq, Repr

/-- The Alert Generator. -/
structure Ag where
  channels : Vector Channel 16
deriving DecidableEq, Repr

/-! ## Field Line Controller (chapter 8) -/

inductive ModuleType where
  | none | amp | beacon
deriving DecidableEq, Repr

inductive ModuleState where
  | absent | present | missing | mismatch
deriving DecidableEq, Repr

/-- The two settings of a ROUTE: channel A, then channel B. -/
structure Route where
  a : Setting
  b : Setting
deriving DecidableEq, Repr

/-- The module record of 8.2. Its in-flight exchange is read off the line (`Line`), where it is held once. -/
structure FieldModule where
  configured : ModuleType
  sensed : ModuleType
  revision : Option Byte
  state : ModuleState
  pendingRoute : Option Route
  appliedRoute : Option Route
deriving DecidableEq, Repr

/-- The command of an addressed exchange (8.1); a ROUTE keeps the settings of its first attempt (R152). -/
inductive Exchange where
  | identify
  | route (r : Route)
  | poll
deriving DecidableEq, Repr

/-- What the field line is doing: nothing, sending an ALERT broadcast, an addressed exchange with whether its one retry has
been used, or the wait of R165 after a warm restart. -/
inductive Line where
  | free
  | alert (outputs : BitVec 16)
  | exchange (m : ModuleId) (x : Exchange) (retryUsed : Bool)
  | holdoff
deriving DecidableEq, Repr

/-- The Field Line Controller with the zone records. -/
structure Flc where
  modules : Vector FieldModule 24
  zones : Vector Zone 48
  alert : Option (BitVec 16)
  line : Line
  scanPos : ModuleId
  scanCounter : Nat
deriving DecidableEq, Repr

/-! ## Configuration Store (chapter 10) -/

/-- A group's share of the store image (R178): its members are kept as station and weight. -/
structure GroupImage where
  service : ServiceState
  cfg : GroupCfg
  annP : AnnParams
  beaconP : BeaconParams
  members : List (StationId × Nat)
deriving DecidableEq, Repr

/-- A station's share of the store image (R178). -/
structure StationImage where
  cfg : StationCfg
  dnd : Bool
  memberships : List GroupId
deriving DecidableEq, Repr

/-- The content of the store image (R178). -/
structure Image where
  stations : Vector StationImage 384
  groups : Vector GroupImage 64
  links : Vector (List PickupId) 48
  classes : Vector ServiceClass 4
  directories : Vector Directory 8
  entries : Vector CodeEntry 128
  pageGroups : Vector PageGroupCfg 64
  slots : Vector (Cadence × Cadence) 16
  types : Vector ModuleType 24
  saveCount : Half
deriving DecidableEq, Repr

/-- The store state of chapter 10; a running save holds the copy it writes and the tick it began at (R180). -/
inductive StoreState where
  | valid
  | invalid
  | saving (copy : Image) (began : Tick)
deriving DecidableEq, Repr

inductive SaveResult where
  | none | ok | failed | abandoned
deriving DecidableEq, Repr

/-- The Configuration Store. The nonvolatile store holds the image and its stored sum (R178), which is good when it equals the
sum computed over the image (`Cs.good`). -/
structure Cs where
  state : StoreState
  count : Half
  last : SaveResult
  image : Image
  sum : Half
deriving DecidableEq, Repr

/-! ## Control Link (chapter 9) -/

/-- The outcome codes of R168, with their encoding in 11.4. -/
inductive Code where
  | ok | unknownRequest | badLength | badValue | notRunning | stale | targetBusy | closed | noResource | limit
  | alreadyMember | notMember | groupFull | inUse | nothingToPickUp | tooLate | denied | noSuchCode | chainTooLong
  | noZones | orbitBusy | orbitEmpty | slotInUse | storeBusy | storeFailed | wrongState
deriving DecidableEq, Repr

/-- A reply (9.1, 11.1): the request kind it answers, the request's tag, whether it is WAITING, its outcome, the lost flag
as it stood when the reply was made, and its field bytes (R187). -/
structure Reply where
  kind : Byte
  tag : Byte
  waiting : Bool
  code : Code
  lost : Bool
  fields : List Byte
deriving DecidableEq, Repr

inductive RingReason where
  | group | direct | recall
deriving DecidableEq, Repr

inductive RefuseCause where
  | coverageFailed | noStation
deriving DecidableEq, Repr

inductive OverflowCause where
  | deadline | roundLimit | queueFull | ringAll
deriving DecidableEq, Repr

inductive CoverCause where
  | direct | recall
deriving DecidableEq, Repr

inductive RedirectFail where
  | limit | arrival
deriving DecidableEq, Repr

/-- The call an event of a QUEUE STATE notice concerns: its id, generation and redirect count after the event (R55). -/
structure CallRef where
  call : CallId
  gen : Byte
  redirects : Nat
deriving DecidableEq, Repr

/-- The events of the QUEUE STATE notice (R55). -/
inductive QueueEvent where
  | nonEmpty
  | empty
  | overflowed (c : CallRef) (other : GroupId) (cause : OverflowCause)
  | nightRedirected (c : CallRef) (other : GroupId)
  | covered (c : CallRef) (cause : CoverCause)
  | redirectFailed (c : CallRef) (other : GroupId) (reason : RedirectFail)
  | announceRefused (code : Code)
deriving DecidableEq, Repr

/-- The events of the PAGE STATE notice (R132). -/
inductive PageEvent where
  | started | held | resumed | ended
deriving DecidableEq, Repr

inductive StartCause where
  | power | pin | restart
deriving DecidableEq, Repr

inductive StoreResult where
  | valid | invalid
deriving DecidableEq, Repr

inductive LinkCause where
  | sum | gap | length | overrun
deriving DecidableEq, Repr

/-- The reports of 11.3, directives first. -/
inductive Report where
  | ring (station : StationId) (label : Half) (call : CallId) (callGen ringGen : Byte) (reason : RingReason) (hostRef : Half)
  | stopRing (station : StationId) (call : CallId) (callGen : Byte) (hostRef : Half)
  | connect (call : CallId) (callGen : Byte) (station : StationId) (label hostRef : Half)
  | callRefused (call : CallId) (callGen : Byte) (cause : RefuseCause) (hostRef : Half)
  | playPrompt (page : PageId) (gen : Byte) (bus : BusId) (prompt : Byte)
  | pageState (page : PageId) (gen : Byte) (origin : Origin) (priority : Priority) (event : PageEvent) (state : PageState)
      (bus : Option BusId) (audible : Nat) (cause : Option EndCause)
  | queueState (group : GroupId) (event : QueueEvent) (length : Nat)
  | zoneState (zone : ZoneId) (kind : ZoneKind) (service : ZoneService) (fault : Option FaultKind) (gen : Byte)
  | moduleState (moduleNo : ModuleId) (state : ModuleState) (configured sensed : ModuleType) (revision : Option Byte)
  | started (cause : StartCause) (result : StoreResult)
  | linkError (cause : LinkCause) (received : Nat) (kind tag : Option Byte)
deriving DecidableEq, Repr

/-- The receive framer (R166). COLLECTING holds the bytes of one frame received so far; between two commands that is the byte
that ended a gap (assumption 33). DISCARDING is HUNT's third form after a length error: every byte is discarded until the line
has been silent for more than 5 ms. -/
inductive Framer where
  | hunt
  | collecting (bytes : List Byte)
  | discarding
deriving DecidableEq, Repr

inductive RunMode where
  | setup | run
deriving DecidableEq, Repr

/-- A frame the transmitter sends. -/
inductive OutFrame where
  | reply (r : Reply)
  | report (r : Report)
deriving DecidableEq, Repr

inductive Transmitter where
  | idle
  | sending (f : OutFrame)
deriving DecidableEq, Repr

/-- How far a RESTART has come (R175): none decoded; decoded, its reply not yet sent; its reply sent, so that the warm
restart takes place next. -/
inductive RestartPhase where
  | none | decoded | replySent
deriving DecidableEq, Repr

/-- The Control Link. -/
structure Cl where
  framer : Framer
  replies : List Reply
  reports : List Report
  lost : Bool
  mode : RunMode
  tx : Transmitter
  restart : RestartPhase
  startCause : StartCause
deriving DecidableEq, Repr

/-! ## The machine -/

/-- The state of the part: its nine blocks, and the commands that wait to be taken, first in, first out. -/
structure State where
  sct : Sct
  de : De
  ppu : Ppu
  pdir : Pdir
  pgc : Pgc
  ag : Ag
  flc : Flc
  cs : Cs
  cl : Cl
  pending : List Instr
deriving DecidableEq, Repr

/-- No step of this model faults: the manual describes no event at which the part stops. -/
inductive Fault where
deriving DecidableEq, Repr

/-- Why a step is refused. -/
inductive Refusal where
  /-- Raised by an arm of `exec` whose command has no meaning yet; safe, since the model then says nothing. -/
  | notModelled (mnemonic : String)
deriving DecidableEq, Repr

/-! ## The machine right after reset -/

/-- A station at its cold-reset defaults (R23). -/
def Station.reset : Station where
  state := .idle
  call := none
  dnd := false
  cfg := { cls := 0, pickup := none, coverage := none, startService := .inService, label := 0 }
  memberships := []
  ringGen := 1
  idleSince := 0
  wrapupDl := none
  voicePage := none

/-- A FREE call record that keeps the given generation (R2, R19). Every other field is absent or empty (R23); a field that has
no absent form holds 0 or the first code (assumption 4). -/
def Call.freed (gen : Byte) : Call where
  gen := gen
  hostRef := 0
  kind := .group
  priority := 0
  offerTick := 0
  home := none
  current := none
  entryTick := 0
  state := .free
  ringing := []
  tried := []
  round := 0
  redirects := 0
  ringDl := none
  overflowDl := none
  answering := none
  orbit := none
  parker := none
  recallPending := false
  annPage := none

/-- The parameter defaults of R51. -/
def GroupCfg.reset : GroupCfg where
  method := .linear
  noAnswer := 0
  wrapup := 0
  roundLimit := 0
  queueLimit := 0
  overflowGroup := none
  overflowTicks := 0
  nightGroup := none
  autoLogin := false

/-- The announcement parameter defaults of R76. -/
def AnnParams.reset : AnnParams where
  pageGroup := none
  priority := 0
  channel := 0
  tone := 0
  length := 100
  arrivalCount := 0
  duringCount := 0
  delay := 0

/-- The announcement state after any restart (R76). -/
def AnnLive.reset : AnnLive where
  state := .idle
  counter := 0
  delayDl := none
  live := none

/-- The beacon parameter defaults of R76. -/
def BeaconParams.reset : BeaconParams where
  zone := none
  channel := 0
  debounce := 0

/-- The beacon state after any restart (R76). -/
def BeaconLive.reset : BeaconLive where
  state := .off
  dl := none

/-- An UNUSED hunt group at its defaults (R51, R76). -/
def Group.reset : Group where
  service := .unused
  cfg := GroupCfg.reset
  members := []
  circ := 0
  queue := []
  annP := AnnParams.reset
  ann := AnnLive.reset
  beaconP := BeaconParams.reset
  beacon := BeaconLive.reset

/-- A class with every capability off (R97). -/
def ServiceClass.reset : ServiceClass where
  directed := false
  queuePickup := false
  park := false
  summon := false
  recallTicks := 0
  coverageTicks := 0
  announceCode := none

/-- A FREE orbit that keeps the given generation (R86). -/
def Orbit.freed (gen : Byte) : Orbit where
  state := .free
  call := none
  gen := gen
  parker := none
  recallDl := none

/-- An unassigned code entry at its defaults (R111). -/
def CodeEntry.reset : CodeEntry where
  pageGroup := none
  priority := 0
  sourceKind := .voice
  preludeChannel := 0
  preludeTone := 0
  preludeTicks := 0
  maxDuration := 100
  waitTicks := 0

/-- An EMPTY page group entry at its defaults (R111). -/
def PageGroupCfg.reset : PageGroupCfg where
  kind := .empty
  ceilings := Vector.replicate 4 none
  label := 0

/-- An ENDED page record with the given generation and no end cause (R135, R136). The manual gives no value for the fields
that only a live page shows: they are zero, empty or absent (DESIGN CHOICE, assumption 4). -/
def Page.ended (gen : Byte) : Page where
  gen := gen
  state := .ended
  kind := .voice
  origin := .console
  priority := 0
  requested := []
  audible := []
  suspended := []
  beacons := []
  bus := none
  source := .slot 0
  preludeChannel := 0
  preludeTone := 0
  preludeTicks := 0
  maxDuration := 0
  waitTicks := 0
  codeEntry := none
  chain := []
  requestTick := 0
  startTick := none
  waitDl := none
  preludeDl := none
  endDl := none
  endCause := none

/-- A free bus (R135). -/
def Bus.free : Bus where
  page := none
  source := .silent

/-- A zone no module has been identified for (R135, R164). -/
def Zone.reset : Zone where
  kind := .none
  service := .inService
  fault := none
  faultGen := 0
  load := none
  playing := none
  stack := []
  follow := none
  route := none

/-- No claim. -/
def Claims.none : Claims where
  prelude := 0
  tone := 0
  emergency := 0
  group := 0

/-- A STOPPED channel with the given slots and step tick (R147, R148). -/
def Channel.stopped (slotA slotB : Cadence) (stepTick : Tick) : Channel where
  slotA := slotA
  slotB := slotB
  active := .a
  pending := false
  running := false
  phase := 0
  stepTick := stepTick
  output := false
  claims := Claims.none

/-- The cadence of both slots when the store's sum is bad (R147). -/
def Cadence.reset : Cadence where
  period := 100
  on := 50

/-- An ABSENT module of the given configured type (R164). -/
def FieldModule.absent (configured : ModuleType) : FieldModule where
  configured := configured
  sensed := .none
  revision := none
  state := .absent
  pendingRoute := none
  appliedRoute := none

/-- The empty defaults that every block takes when the image's sum is bad (R179). -/
def Image.empty : Image where
  stations := Vector.replicate 384 { cfg := Station.reset.cfg, dnd := false, memberships := [] }
  groups := Vector.replicate 64
    { service := .unused, cfg := GroupCfg.reset, annP := AnnParams.reset, beaconP := BeaconParams.reset, members := [] }
  links := Vector.replicate 48 []
  classes := Vector.replicate 4 ServiceClass.reset
  directories := Vector.replicate 8 { base := 0, length := 0 }
  entries := Vector.replicate 128 CodeEntry.reset
  pageGroups := Vector.replicate 64 PageGroupCfg.reset
  slots := Vector.replicate 16 (Cadence.reset, Cadence.reset)
  types := Vector.replicate 24 .none
  saveCount := 0

/-- The machine right after a power-on whose store was never written (R23, R51, R76, R97, R111, R135, R147, R164, R177, R179,
R184). The first scan's IDENTIFY to address 0 is on the field line (R151, R164), and the transmitter has taken the STARTED
notice, the first report after the start, onto the control link (R169, R177; assumptions 2 and 3). The never-written store holds
an image whose stored sum is bad (R179; which one is assumption 10). -/
def State.reset : State where
  sct := {
    tick := 0
    stations := Vector.replicate 384 Station.reset
    calls := Vector.replicate 192 (Call.freed 0) }
  de := { groups := Vector.replicate 64 Group.reset }
  ppu := {
    pickups := Vector.replicate 48 { links := [], ring := [] }
    classes := Vector.replicate 4 ServiceClass.reset
    orbits := Vector.replicate 32 (Orbit.freed 0)
    freeOrder := List.finRange 32 }
  pdir := {
    directories := Vector.replicate 8 { base := 0, length := 0 }
    entries := Vector.replicate 128 CodeEntry.reset
    pageGroups := Vector.replicate 64 { cfg := PageGroupCfg.reset, referenced := false } }
  pgc := {
    pages := Vector.replicate 16 (Page.ended 0)
    queue := []
    buses := Vector.replicate 8 Bus.free }
  ag := { channels := Vector.replicate 16 (Channel.stopped Cadence.reset Cadence.reset 0) }
  flc := {
    modules := Vector.replicate 24 (FieldModule.absent .none)
    zones := Vector.replicate 48 Zone.reset
    alert := none
    line := .exchange 0 .identify false
    scanPos := 0
    scanCounter := 0 }
  cs := { state := .invalid, count := 0, last := .none, image := Image.empty, sum := 0xFFFF }
  cl := {
    framer := .hunt
    replies := []
    reports := []
    lost := false
    mode := .setup
    tx := .sending (.report (.started .power .invalid))
    restart := .none
    startCause := .power }
  pending := []

end Sys2Proof.Machine
end

