-- ==== Sys2Proof/Machine/Ops.lean ====
section
/-!
DEFINITION. Reading and writing the records, ordered lists, ticks and deadlines, generations. Every other file of the machine
reaches the state through these.
-/

namespace Sys2Proof.Machine

/-! ## Tables -/

/-- The table with entry `i` changed by `f`. -/
def upd {α : Type} {n : Nat} (v : Vector α n) (i : Fin n) (f : α → α) : Vector α n := v.set i.val (f v[i]) i.isLt

/-- The table whose entry `i` is `f i`. -/
def tabulate {α : Type} (n : Nat) (f : Fin n → α) : Vector α n := ⟨⟨List.ofFn f⟩, by simp⟩

/-- The table with every entry changed by `f`. -/
def mapTable {α β : Type} {n : Nat} (f : α → β) (v : Vector α n) : Vector β n := tabulate n fun i => f v[i]

/-- The numbers of a kind of record for which `p` holds, in ascending order. -/
def allWhere {n : Nat} (p : Fin n → Bool) : List (Fin n) := (List.finRange n).filter p

/-- The lowest-numbered record for which `p` holds. -/
def lowestWhere {n : Nat} (p : Fin n → Bool) : Option (Fin n) := (List.finRange n).find? p

/-! ## Ordered lists (00_scope.md, "Ordered collections") -/

/-- A set kept in ascending order, with `x` in it. -/
def insertAsc {n : Nat} (x : Fin n) : List (Fin n) → List (Fin n)
  | [] => [x]
  | y :: ys => if x < y then x :: y :: ys else if x = y then y :: ys else y :: insertAsc x ys

/-- `x` put before the first entry that it precedes, so after every entry it does not. -/
def insertBy {α : Type} (precedes : α → α → Bool) (x : α) : List α → List α
  | [] => [x]
  | y :: ys => if precedes x y then x :: y :: ys else y :: insertBy precedes x ys

/-- The entry that no other precedes, the earlier of two where neither precedes the other. -/
def firstBy {α : Type} (precedes : α → α → Bool) : List α → Option α
  | [] => none
  | x :: xs =>
    match firstBy precedes xs with
    | none => some x
    | some y => if precedes y x then some y else some x

/-- `x` put at position `i`, the entries from there on one place later (R28). -/
def insertAt {α : Type} (x : α) : Nat → List α → List α
  | 0, ys => x :: ys
  | _ + 1, [] => [x]
  | i + 1, y :: ys => y :: insertAt x i ys

/-! ## Ticks (R1) -/

/-- The ticks elapsed since a stamp, (now - stamp) mod 2^32. -/
def elapsed (now stamp : Tick) : Nat := (now - stamp).toNat

/-- Stamp `a` is earlier than stamp `b`: more ticks have elapsed since it (assumption 7). -/
def earlier (now a b : Tick) : Bool := elapsed now b < elapsed now a

/-- The deadline `n` ticks from now. -/
def after (now : Tick) (n : Nat) : Tick := now + BitVec.ofNat 32 n

/-- The deadline `n` ticks from now, absent when the parameter is 0 (00_scope.md, "The tick, timestamps and deadlines"). -/
def afterOpt (now : Tick) (n : Nat) : Option Tick := if n = 0 then none else some (after now n)

/-- The counter has reached the deadline. No deadline is ever more than half the counter's range ahead (R1), so a deadline
behind the counter is one less than half the range behind it (assumption 6). -/
def reached (now dl : Tick) : Bool := (now - dl).toNat < 2 ^ 31

/-- A deadline that is present and that the counter has reached: its expiry is due. -/
def due (now : Tick) (dl : Option Tick) : Bool :=
  match dl with
  | none => false
  | some d => reached now d

/-- The ticks from now to a deadline that has not been reached, 0 once it has. -/
def remaining (now dl : Tick) : Nat := if reached now dl then 0 else (dl - now).toNat

/-! ## Generations -/

/-- The next generation: 0 to 1, n to n + 1 up to 254, 255 to 1 (R2, R86, R113, R155). -/
def nextGen (g : Byte) : Byte := if g = 255 then 1 else g + 1

/-- The check of a generation given in a request: 0 skips it (R2; 00_scope.md, "Generations"). -/
def staleGen (given held : Byte) : Bool := given != 0 && given != held

/-! ## Reading records -/

namespace State

def now (s : State) : Tick := s.sct.tick
def station (s : State) (i : StationId) : Station := s.sct.stations[i]
def call (s : State) (i : CallId) : Call := s.sct.calls[i]
def group (s : State) (i : GroupId) : Group := s.de.groups[i]
def pickup (s : State) (i : PickupId) : PickupGroup := s.ppu.pickups[i]
def cls (s : State) (i : ClassId) : ServiceClass := s.ppu.classes[i]
def orbit (s : State) (i : OrbitId) : Orbit := s.ppu.orbits[i]
def directory (s : State) (i : DirectoryId) : Directory := s.pdir.directories[i]
def entry (s : State) (i : EntryId) : CodeEntry := s.pdir.entries[i]
def pageGroup (s : State) (i : PageGroupId) : PageGroup := s.pdir.pageGroups[i]
def page (s : State) (i : PageId) : Page := s.pgc.pages[i]
def bus (s : State) (i : BusId) : Bus := s.pgc.buses[i]
def channel (s : State) (i : ChannelId) : Channel := s.ag.channels[i]
def fieldModule (s : State) (i : ModuleId) : FieldModule := s.flc.modules[i]
def zone (s : State) (i : ZoneId) : Zone := s.flc.zones[i]

/-- The class entry of a station (R79). -/
def classOf (s : State) (i : StationId) : ServiceClass := s.cls (s.station i).cfg.cls

/-! ## Writing records -/

def modStation (s : State) (i : StationId) (f : Station → Station) : State :=
  { s with sct := { s.sct with stations := upd s.sct.stations i f } }
def modCall (s : State) (i : CallId) (f : Call → Call) : State :=
  { s with sct := { s.sct with calls := upd s.sct.calls i f } }
def modGroup (s : State) (i : GroupId) (f : Group → Group) : State :=
  { s with de := { s.de with groups := upd s.de.groups i f } }
def modPickup (s : State) (i : PickupId) (f : PickupGroup → PickupGroup) : State :=
  { s with ppu := { s.ppu with pickups := upd s.ppu.pickups i f } }
def modClass (s : State) (i : ClassId) (f : ServiceClass → ServiceClass) : State :=
  { s with ppu := { s.ppu with classes := upd s.ppu.classes i f } }
def modOrbit (s : State) (i : OrbitId) (f : Orbit → Orbit) : State :=
  { s with ppu := { s.ppu with orbits := upd s.ppu.orbits i f } }
def modDirectory (s : State) (i : DirectoryId) (f : Directory → Directory) : State :=
  { s with pdir := { s.pdir with directories := upd s.pdir.directories i f } }
def modEntry (s : State) (i : EntryId) (f : CodeEntry → CodeEntry) : State :=
  { s with pdir := { s.pdir with entries := upd s.pdir.entries i f } }
def modPageGroup (s : State) (i : PageGroupId) (f : PageGroup → PageGroup) : State :=
  { s with pdir := { s.pdir with pageGroups := upd s.pdir.pageGroups i f } }
def modPage (s : State) (i : PageId) (f : Page → Page) : State :=
  { s with pgc := { s.pgc with pages := upd s.pgc.pages i f } }
def modBus (s : State) (i : BusId) (f : Bus → Bus) : State :=
  { s with pgc := { s.pgc with buses := upd s.pgc.buses i f } }
def modChannel (s : State) (i : ChannelId) (f : Channel → Channel) : State :=
  { s with ag := { s.ag with channels := upd s.ag.channels i f } }
def modModule (s : State) (i : ModuleId) (f : FieldModule → FieldModule) : State :=
  { s with flc := { s.flc with modules := upd s.flc.modules i f } }
def modZone (s : State) (i : ZoneId) (f : Zone → Zone) : State :=
  { s with flc := { s.flc with zones := upd s.flc.zones i f } }
def modCl (s : State) (f : Cl → Cl) : State := { s with cl := f s.cl }

end State

/-! ## Modules and their zones (R150) -/

/-- Zone 2m is channel A of module m. -/
def zoneA (m : ModuleId) : ZoneId := ⟨2 * m.val, by omega⟩
/-- Zone 2m + 1 is channel B of module m. -/
def zoneB (m : ModuleId) : ZoneId := ⟨2 * m.val + 1, by omega⟩
/-- The module whose channel a zone is. -/
def moduleOf (z : ZoneId) : ModuleId := ⟨z.val / 2, by omega⟩

/-! ## Stations (1.3) -/

/-- A station is available when it is IDLE and its do-not-disturb flag is off. -/
def Station.available (t : Station) : Bool := t.state == .idle && !t.dnd

/-- A station enters IDLE from TALKING, BUSY, WRAPUP or OUT: its idle-since stamp is taken (R3). -/
def enterIdle (s : State) (x : StationId) : State :=
  s.modStation x fun t => { t with state := .idle, call := none, wrapupDl := none, idleSince := s.now }

end Sys2Proof.Machine
end

