-- ==== Sys2Proof/Machine/Encode.lean ====
section
/-!
DEFINITION. How the part spells its frames: the codes of 11.4, the field encodings of R185 and R187, the bodies of the reports
(11.3), the control-link frames (11.1), the parts of the long query replies (R186), and the field-line frames (11.5, R188).
-/

namespace Sys2Proof.Machine

/-! ## Codes (11.4) -/

def StationState.code : StationState → Byte
  | .out => 0 | .idle => 1 | .ringing => 2 | .talking => 3 | .busy => 4 | .wrapup => 5

def StartService.code : StartService → Byte
  | .inService => 0 | .out => 1

def CallKind.code : CallKind → Byte
  | .group => 0 | .direct => 1

def CallState.code : CallState → Byte
  | .free => 0 | .queued => 1 | .ringing => 2 | .connected => 3 | .parked => 4 | .recalling => 5

def ServiceState.code : ServiceState → Byte
  | .unused => 0 | .inService => 1 | .night => 2 | .closed => 3

def Method.code : Method → Byte
  | .linear => 0 | .circular => 1 | .even => 2 | .longestIdle => 3 | .weighted => 4 | .ringAll => 5

def Slot.code : Slot → Byte
  | .a => 0 | .b => 1

def RingReason.code : RingReason → Byte
  | .group => 0 | .direct => 1 | .recall => 2

def RefuseCause.code : RefuseCause → Byte
  | .coverageFailed => 0 | .noStation => 1

def OverflowCause.code : OverflowCause → Byte
  | .deadline => 0 | .roundLimit => 1 | .queueFull => 2 | .ringAll => 3

def CoverCause.code : CoverCause → Byte
  | .direct => 0 | .recall => 1

def RedirectFail.code : RedirectFail → Byte
  | .limit => 0 | .arrival => 1

def AnnState.code : AnnState → Byte
  | .idle => 0 | .armed => 1 | .live => 2

def BeaconState.code : BeaconState → Byte
  | .off => 0 | .on => 1 | .debounce => 2

def OrbitState.code : OrbitState → Byte
  | .free => 0 | .held => 1

def PageKind.code : PageKind → Byte
  | .voice => 0 | .prompt => 1 | .tone => 2

def SourceKind.code : SourceKind → Byte
  | .voice => 0 | .prompt => 1

def PageState.code : PageState → Byte
  | .queued => 0 | .prelude => 1 | .playing => 2 | .held => 3 | .ended => 4

def PageEvent.code : PageEvent → Byte
  | .started => 0 | .held => 1 | .resumed => 2 | .ended => 3

def EndCause.code : EndCause → Byte
  | .released => 0 | .expired => 1 | .cut => 2 | .noZones => 3 | .withdrawn => 4 | .waitTimeout => 5

def ZoneKind.code : ZoneKind → Byte
  | .none => 0 | .speaker => 1 | .beacon => 2

def ZoneService.code : ZoneService → Byte
  | .inService => 0 | .faulted => 1 | .outOfService => 2

def FaultKind.code : FaultKind → Byte
  | .openLine => 1 | .shortLine => 2 | .overtemp => 3 | .supply => 4 | .noReply => 5 | .typeMismatch => 6

def ModuleState.code : ModuleState → Byte
  | .absent => 0 | .present => 1 | .missing => 2 | .mismatch => 3

def ModuleType.code : ModuleType → Byte
  | .none => 0 | .amp => 1 | .beacon => 2

def StoreState.code : StoreState → Byte
  | .valid => 0 | .invalid => 1 | .saving _ _ => 2

def SaveResult.code : SaveResult → Byte
  | .none => 0 | .ok => 1 | .failed => 2 | .abandoned => 3

def StartCause.code : StartCause → Byte
  | .power => 0 | .pin => 1 | .restart => 2

def StoreResult.code : StoreResult → Byte
  | .valid => 0 | .invalid => 1

def RunMode.code : RunMode → Byte
  | .setup => 0 | .run => 1

def LinkCause.code : LinkCause → Byte
  | .sum => 0 | .gap => 1 | .length => 2 | .overrun => 3

/-- The outcome codes (11.4). -/
def Code.code : Code → Byte
  | .ok => 0 | .unknownRequest => 1 | .badLength => 2 | .badValue => 3 | .notRunning => 4 | .stale => 5
  | .targetBusy => 6 | .closed => 7 | .noResource => 8 | .limit => 9 | .alreadyMember => 10 | .notMember => 11
  | .groupFull => 12 | .inUse => 13 | .nothingToPickUp => 14 | .tooLate => 15 | .denied => 16 | .noSuchCode => 17
  | .chainTooLong => 18 | .noZones => 19 | .orbitBusy => 20 | .orbitEmpty => 21 | .slotInUse => 22 | .storeBusy => 23
  | .storeFailed => 24 | .wrongState => 25

/-! ## Fields (R185) -/

/-- The code of a one-byte field that is none or absent. -/
def absent8 : Byte := 0xFF

def enc8 (n : Nat) : List Byte := [BitVec.ofNat 8 n]

/-- A two-byte number, most significant byte first. -/
def enc16 (n : Nat) : List Byte := [BitVec.ofNat 8 (n / 256), BitVec.ofNat 8 n]

/-- A tick counter value or stamp: four bytes, most significant first. -/
def encTick (t : Tick) : List Byte :=
  [t.extractLsb' 24 8, t.extractLsb' 16 8, t.extractLsb' 8 8, t.extractLsb' 0 8]

/-- A stamp that may be absent: a presence byte, then four bytes, all 0 when absent. -/
def encTickOpt : Option Tick → List Byte
  | none => [0, 0, 0, 0, 0]
  | some t => 1 :: encTick t

def encBool (b : Bool) : List Byte := [if b then 1 else 0]

/-- A record number, 0xFF when absent. -/
def encOpt {n : Nat} : Option (Fin n) → List Byte
  | none => [absent8]
  | some i => enc8 i.val

/-- A station, 0xFFFF when absent. -/
def encStationOpt : Option StationId → List Byte
  | none => [0xFF, 0xFF]
  | some x => enc16 x.val

/-- A deadline as its remaining ticks: 0 once passed, 0xFFFF when absent. -/
def encRemaining (now : Tick) : Option Tick → List Byte
  | none => [0xFF, 0xFF]
  | some d => enc16 (remaining now d)

/-- A zone set as a 48-bit map, zone 0 the lowest bit of the last byte. -/
def encZones (zs : List ZoneId) : List Byte :=
  let w : BitVec 48 := zs.foldl (fun w z => w ||| (1#48 <<< z.val)) 0#48
  [w.extractLsb' 40 8, w.extractLsb' 32 8, w.extractLsb' 24 8, w.extractLsb' 16 8, w.extractLsb' 8 8, w.extractLsb' 0 8]

/-- A credit in two's complement. -/
def encCredit (c : Int) : List Byte := enc16 (BitVec.ofInt 16 c).toNat

def encLoad : Option (BitVec 15) → List Byte
  | none => [0xFF, 0xFF]
  | some w => enc16 w.toNat

def encRevision : Option Byte → List Byte
  | none => [0xFF, 0xFF]
  | some r => [0, r]

/-- A page or call named with its generation: 0xFF and 0 when absent (R187). -/
def encRef {n : Nat} : Option (Fin n × Byte) → List Byte
  | none => [absent8, 0]
  | some (i, g) => [BitVec.ofNat 8 i.val, g]

/-- The end cause of a PAGE STATE notice or a PAGE QUERY reply, 0xFF when the page has none (assumption 41). -/
def encCause : Option EndCause → List Byte
  | none => [absent8]
  | some c => [c.code]

/-- A zone's latched fault, 0xFF when it has none (assumption 41). -/
def encFault : Option FaultKind → List Byte
  | none => [absent8]
  | some f => [f.code]

/-- A desired route or route setting: bus or channel, 0xFF off. -/
def encSetting : Setting → List Byte := encOpt

/-- A pending or applied route: a presence byte, then the two settings, off when the route is absent. -/
def encRoute : Option Route → List Byte
  | none => [0, absent8, absent8]
  | some r => 1 :: encSetting r.a ++ encSetting r.b

/-- The origin kind byte and the three origin bytes of 11.3. -/
def encOrigin : Origin → List Byte
  | .station x => 0 :: enc16 x.val ++ [absent8]
  | .console => [1, absent8, absent8, absent8]
  | .groupAnnouncement g => 2 :: enc8 g.val ++ [absent8, absent8]
  | .parkAnnouncement c o g => 3 :: enc8 c.val ++ enc8 o.val ++ [g]

/-- A page's source as PAGE QUERY gives it (R187). -/
def encPageSource : PageSource → List Byte
  | .slot n => enc8 n.val ++ [absent8]
  | .prompt n => [n, absent8]
  | .tone k t => enc8 k.val ++ enc8 t.val

/-- A bus source as BUS QUERY gives it (R187). -/
def encBusSource : BusSource → List Byte
  | .silent => [0, absent8, absent8]
  | .slot n => 1 :: enc8 n.val ++ [absent8]
  | .tone k t => 2 :: enc8 k.val ++ enc8 t.val
  | .prompt => [3, absent8, absent8]

/-- A list of entries: a count byte, then each entry (R187). -/
def encList {α : Type} (f : α → List Byte) (l : List α) : List (List Byte) := enc8 l.length :: l.map f

/-- A station list: a two-byte count, then two bytes a station. -/
def encStations (l : List StationId) : List (List Byte) := enc16 l.length :: l.map fun x => enc16 x.val

/-! ## Reports (11.3) -/

/-- The report kind byte. -/
def Report.kind : Report → Byte
  | .ring .. => 0x81
  | .stopRing .. => 0x82
  | .connect .. => 0x83
  | .callRefused .. => 0x84
  | .playPrompt .. => 0x85
  | .pageState .. => 0x86
  | .queueState .. => 0x87
  | .zoneState .. => 0x88
  | .moduleState .. => 0x89
  | .started .. => 0x8A
  | .linkError .. => 0x8B

def QueueEvent.code : QueueEvent → Byte
  | .nonEmpty => 0 | .empty => 1 | .overflowed .. => 2 | .nightRedirected .. => 3 | .covered .. => 4
  | .redirectFailed .. => 5 | .announceRefused .. => 6

/-- Call, call generation, other group, redirect count and extra of a QUEUE STATE body; each is 0xFF for an event that does
not name it. -/
def QueueEvent.tail : QueueEvent → List Byte
  | .nonEmpty => [absent8, absent8, absent8, absent8, absent8]
  | .empty => [absent8, absent8, absent8, absent8, absent8]
  | .overflowed c g e => enc8 c.call.val ++ [c.gen] ++ enc8 g.val ++ enc8 c.redirects ++ [e.code]
  | .nightRedirected c g => enc8 c.call.val ++ [c.gen] ++ enc8 g.val ++ enc8 c.redirects ++ [absent8]
  | .covered c e => enc8 c.call.val ++ [c.gen, absent8] ++ enc8 c.redirects ++ [e.code]
  | .redirectFailed c g e => enc8 c.call.val ++ [c.gen] ++ enc8 g.val ++ enc8 c.redirects ++ [e.code]
  | .announceRefused e => [absent8, absent8, absent8, absent8, e.code]

def encByteOpt : Option Byte → List Byte
  | none => [absent8]
  | some b => [b]

/-- The body of a report. -/
def Report.body : Report → List Byte
  | .ring x l c g rg why ref => enc16 x.val ++ enc16 l.toNat ++ enc8 c.val ++ [g, rg, why.code] ++ enc16 ref.toNat
  | .stopRing x c g ref => enc16 x.val ++ enc8 c.val ++ [g] ++ enc16 ref.toNat
  | .connect c g x l ref => enc8 c.val ++ [g] ++ enc16 x.val ++ enc16 l.toNat ++ enc16 ref.toNat
  | .callRefused c g why ref => enc8 c.val ++ [g, why.code] ++ enc16 ref.toNat
  | .playPrompt p g b n => enc8 p.val ++ [g] ++ enc8 b.val ++ [n]
  | .pageState p g o pr e st b n why =>
    enc8 p.val ++ [g] ++ encOrigin o ++ enc8 pr.val ++ [e.code, st.code] ++ encOpt b ++ enc8 n ++ encCause why
  | .queueState g e n => enc8 g.val ++ [e.code] ++ enc8 n ++ e.tail
  | .zoneState z k sv f g => enc8 z.val ++ [k.code, sv.code] ++ encFault f ++ [g]
  | .moduleState m st k sn r => enc8 m.val ++ [st.code, k.code, sn.code] ++ encRevision r
  | .started c r => [c.code, r.code]
  | .linkError c n k t => c.code :: enc8 (min n 255) ++ encByteOpt k ++ encByteOpt t

/-! ## Control-link frames (9.1, 11.1) -/

/-- The byte that makes the 8-bit sum of all bytes zero. -/
def sumByte (bs : List Byte) : Byte := 0 - bs.foldl (· + ·) 0

/-- A frame's bytes: kind, length, tag, body, sum. -/
def frameBytes (kind tag : Byte) (body : List Byte) : List Byte :=
  let bs := kind :: BitVec.ofNat 8 body.length :: tag :: body
  bs ++ [sumByte bs]

/-- The body of a reply: the request kind, the outcome code, the flags byte, then its fields (11.1). -/
def Reply.body (r : Reply) : List Byte := [r.kind, r.code.code, if r.lost then 1 else 0] ++ r.fields

/-- The bytes the transmitter sends for a frame: a reply with its request's tag, a report with tag 0. -/
def OutFrame.bytes : OutFrame → List Byte
  | .reply r => frameBytes 0x80 r.tag r.body
  | .report r => frameBytes r.kind 0 r.body

/-! ## The parts of a long reply (R186) -/

/-- Fields and list entries packed in order into parts of at most 55 bytes, none of them split across two parts
(assumption 12). The first argument is the part being filled. -/
def packParts : List Byte → List (List Byte) → List (List Byte)
  | part, [] => [part]
  | part, f :: fs =>
    if part.length + f.length ≤ Config.partSize then packParts (part ++ f) fs else part :: packParts f fs

/-- The fields of one part, behind its part number and the last part number; none when the record has no such part. -/
def partFields (fields : List (List Byte)) (part : Nat) : Option (List Byte) :=
  let parts := packParts [] fields
  parts[part]?.map fun bs => enc8 part ++ enc8 (parts.length - 1) ++ bs

/-! ## Field-line frames (11.5, R188) -/

/-- The command code of an exchange. -/
def Exchange.code : Exchange → Byte
  | .identify => 0x01
  | .route _ => 0x02
  | .poll => 0x03

/-- A field-line frame: address, command, data, sum. -/
def fieldFrame (address command : Byte) (data : List Byte) : List Byte :=
  let bs := address :: command :: data
  bs ++ [sumByte bs]

/-- The frame the part sends for what is on the field line. -/
def Line.bytes : Line → List Byte
  | .free => []
  | .alert w => fieldFrame 31 0x04 (enc16 w.toNat)
  | .exchange m .identify _ => fieldFrame (BitVec.ofNat 8 m.val) 0x01 []
  | .exchange m (.route r) _ => fieldFrame (BitVec.ofNat 8 m.val) 0x02 (encSetting r.a ++ encSetting r.b)
  | .exchange m .poll _ => fieldFrame (BitVec.ofNat 8 m.val) 0x03 []
  | .holdoff => []

end Sys2Proof.Machine
end

