-- ==== Sys2Proof/WellFormed.lean ====
section
/-!
DEFINITION. Which commands the part can meet: requests whose header and event byte are as table 11.2 lays them out, frames in
error that are in error, and answers on the field line that are what their row says (9.1, R149, R166, R185 to R188).
-/

namespace Sys2Proof

/-- The body lengths that table 11.2 allows for a request kind, none for a code that is no request kind. The four long queries
may carry a part number (R186). -/
def requestLengths (kind : Byte) : Option (List Nat) :=
  match kind.toNat with
  | 0x01 => some [8] | 0x02 => some [14] | 0x03 => some [6] | 0x04 => some [3] | 0x05 => some [11] | 0x06 => some [5]
  | 0x07 => some [5] | 0x08 => some [8] | 0x09 => some [3] | 0x0A => some [12] | 0x0B => some [15] | 0x0C => some [6]
  | 0x0D => some [2] | 0x10 => some [2] | 0x11 => some [1, 2] | 0x12 => some [1, 2] | 0x13 => some [1, 2]
  | 0x14 => some [1] | 0x15 => some [1] | 0x16 => some [1] | 0x17 => some [1] | 0x18 => some [1] | 0x19 => some [1, 2]
  | 0x1A => some [1] | 0x1B => some [1] | 0x1C => some [1] | 0x1D => some [1] | 0x1F => some [0] | 0x20 => some [0]
  | 0x21 => some [2] | 0x22 => some [0] | 0x23 => some [0] | 0x24 => some [0] | 0x30 => some [3] | 0x31 => some [6]
  | 0x32 => some [2] | 0x33 => some [3] | 0x34 => some [3] | 0x35 => some [4] | 0x36 => some [5] | 0x37 => some [3]
  | 0x38 => some [6] | 0x39 => some [4] | 0x3A => some [5] | 0x3B => some [4] | 0x3C => some [3] | 0x3D => some [3]
  | 0x3E => some [2] | 0x3F => some [2]
  | _ => none

/-- The request kind byte and the header of a command that is a request; an unknown request carries its own kind. -/
def Instr.request? : Instr → Option (Byte × Header)
  | .stationSet h .. => some (0x01, h)
  | .groupSet h .. => some (0x02, h)
  | .memberAdd h .. => some (0x03, h)
  | .memberRemove h .. => some (0x04, h)
  | .announceSet h .. => some (0x05, h)
  | .beaconSet h .. => some (0x06, h)
  | .pickupGroupSet h .. => some (0x07, h)
  | .classSet h .. => some (0x08, h)
  | .directorySet h .. => some (0x09, h)
  | .entrySet h .. => some (0x0A, h)
  | .pageGroupSet h .. => some (0x0B, h)
  | .cadenceSet h .. => some (0x0C, h)
  | .moduleSet h .. => some (0x0D, h)
  | .stationQuery h .. => some (0x10, h)
  | .callQuery h .. => some (0x11, h)
  | .groupQuery h .. => some (0x12, h)
  | .pickupGroupQuery h .. => some (0x13, h)
  | .orbitQuery h .. => some (0x14, h)
  | .classQuery h .. => some (0x15, h)
  | .directoryQuery h .. => some (0x16, h)
  | .entryQuery h .. => some (0x17, h)
  | .pageGroupQuery h .. => some (0x18, h)
  | .pageQuery h .. => some (0x19, h)
  | .busQuery h .. => some (0x1A, h)
  | .alertQuery h .. => some (0x1B, h)
  | .moduleQuery h .. => some (0x1C, h)
  | .zoneQuery h .. => some (0x1D, h)
  | .storeQuery h => some (0x1F, h)
  | .status h => some (0x20, h)
  | .groupMode h .. => some (0x21, h)
  | .storeSave h => some (0x22, h)
  | .start h => some (0x23, h)
  | .restart h => some (0x24, h)
  | .offHook h .. => some (0x30, h)
  | .onHook h .. => some (0x30, h)
  | .serviceOff h .. => some (0x30, h)
  | .serviceOn h .. => some (0x30, h)
  | .dndOn h .. => some (0x30, h)
  | .dndOff h .. => some (0x30, h)
  | .callOffer h .. => some (0x31, h)
  | .callGone h .. => some (0x32, h)
  | .memberLogin h .. => some (0x33, h)
  | .memberLogout h .. => some (0x34, h)
  | .groupPickup h .. => some (0x35, h)
  | .directedPickup h .. => some (0x36, h)
  | .queuePickup h .. => some (0x37, h)
  | .park h .. => some (0x38, h)
  | .retrieve h .. => some (0x39, h)
  | .page h .. => some (0x3A, h)
  | .pageEnd h .. => some (0x3B, h)
  | .summon h .. => some (0x3C, h)
  | .summonHush h .. => some (0x3D, h)
  | .zoneRestore h .. => some (0x3E, h)
  | .zoneService h .. => some (0x3F, h)
  | .unknownRequest h kind => some (kind, h)
  | _ => none

/-- A request's length is one that table 11.2 allows for its kind. -/
def Instr.legalLength (i : Instr) : Bool :=
  match i.request? with
  | some (kind, h) => ((requestLengths kind).getD []).contains h.length.toNat
  | none => false

/-- A frame is complete: its length byte is at most 60, and 4 + length bytes are there (9.1). -/
def frameComplete (frame : List Byte) : Bool :=
  match frame with
  | _ :: len :: _ => decide (len.toNat ≤ 60) && frame.length == 4 + len.toNat
  | _ => false

/-- The 8-bit sum of a frame. -/
def frameSum (frame : List Byte) : Byte := frame.foldl (· + ·) 0

/-- A module address 0..23 (8.1). -/
def moduleAddress (a : Byte) : Bool := decide (a.toNat < 24)

/-- A ROUTE setting byte: 0..15 or off (R188). -/
def settingCode (x : Byte) : Bool := decide (x.toNat < 16) || x == 0xFF

/-- A POLL status word: a load reading, or a fault code 1..4 (R188). -/
def statusCode (w : Half) : Bool := !w.msb || (decide (0x8001 ≤ w.toNat) && decide (w.toNat ≤ 0x8004))

/-- The event byte of a STATION EVENT is its row's code; a byte that names no event travels under the first row
(assumption 5). -/
def eventByte (code : Nat) (event : Byte) : Bool := event.toNat == code || (code == 0 && decide (5 < event.toNat))

/-- A request of one byte more than the record number carries a part number, otherwise the part is 0 (R186). -/
def partByte (h : Header) (part : Byte) : Bool := h.length != 1 || part == 0

/-- What a command must hold beside the form of its constructor. -/
def Instr.fieldsOk : Instr → Bool
  | .callQuery h _ part => partByte h part
  | .groupQuery h _ part => partByte h part
  | .pickupGroupQuery h _ part => partByte h part
  | .pageQuery h _ part => partByte h part
  | .offHook _ _ e => eventByte 0 e
  | .onHook _ _ e => eventByte 1 e
  | .serviceOff _ _ e => eventByte 2 e
  | .serviceOn _ _ e => eventByte 3 e
  | .dndOn _ _ e => eventByte 4 e
  | .dndOff _ _ e => eventByte 5 e
  | .unknownRequest _ kind => (requestLengths kind).isNone
  | .frameSumError frame => frameComplete frame && frameSum frame != 0
  | .frameGap received _ => decide (received.length < 64)
  | .frameLengthError _ len => decide (60 < len.toNat)
  | .frameOverrun frame => frameComplete frame
  | .identifyAnswer a kind _ => moduleAddress a && (kind == 1 || kind == 2)
  | .routeAnswer a x y => moduleAddress a && settingCode x && settingCode y
  | .pollAnswer a v w => moduleAddress a && statusCode v && statusCode w
  | .invalidAnswer frame => !frame.isEmpty
  | .answerGap received => !received.isEmpty
  | _ => true

/-- The header of a request says at most 60 body bytes (9.1). -/
def Instr.headerOk (i : Instr) : Bool :=
  match i.request? with
  | some (_, h) => decide (h.length.toNat ≤ 60)
  | none => true

/-- A command that the part can meet. -/
def Instr.wellFormed (i : Instr) : Bool := i.headerOk && i.fieldsOk

end Sys2Proof
end

