-- ==== Sys2Proof/Decode.lean ====
section
/-!
DEFINITION. From bytes to commands and back: the request frames of 11.1 and 11.2 with the field encodings of R185, and the
answers of the field line (11.5, R188). The opcode table itself gives no row any bits, so no word spells a command.
-/

namespace Sys2Proof

/-- The command that a word spells by the opcode table's bits: no row of the table has any (assumption 16). -/
def decodeTableWord (_nbits _w : Nat) : Option Instr := none

/-! ## Request bodies (11.2, R185) -/

/-- A two-byte number at an offset of a body, most significant byte first. -/
def halfAt (b : Nat → Byte) (i : Nat) : Half := b i ++ b (i + 1)

/-- A zone set at an offset of a body: six bytes, zone 0 the lowest bit of the last. -/
def zonesAt (b : Nat → Byte) (i : Nat) : BitVec 48 :=
  b i ++ b (i + 1) ++ b (i + 2) ++ b (i + 3) ++ b (i + 4) ++ b (i + 5)

def halfBytes (x : Half) : List Byte := [x.extractLsb' 8 8, x.extractLsb' 0 8]

def zoneBytes (x : BitVec 48) : List Byte :=
  [x.extractLsb' 40 8, x.extractLsb' 32 8, x.extractLsb' 24 8, x.extractLsb' 16 8, x.extractLsb' 8 8, x.extractLsb' 0 8]

/-- The part number of a long query, when the request carries one (R186). -/
def partBytes (h : Header) (part : Byte) : List Byte := if h.length = 2 then [part] else []

/-- The row of a STATION EVENT by its event byte (11.4); a byte that names no event travels under the first row. -/
def stationEventOf (h : Header) (station : Half) (event : Byte) : Instr :=
  match event.toNat with
  | 1 => .onHook h station event
  | 2 => .serviceOff h station event
  | 3 => .serviceOn h station event
  | 4 => .dndOn h station event
  | 5 => .dndOff h station event
  | _ => .offHook h station event

/-- The request of a kind whose body bytes are `b`, zero past the end of the body. -/
def requestOfBody (kind : Byte) (h : Header) (b : Nat → Byte) : Instr :=
  match kind.toNat with
  | 0x01 => .stationSet h (halfAt b 0) (b 2) (b 3) (b 4) (b 5) (halfAt b 6)
  | 0x02 => .groupSet h
      { group := b 0, action := b 1, method := b 2, noAnswer := halfAt b 3, wrapup := halfAt b 5, roundLimit := b 7,
        queueLimit := b 8, overflowGroup := b 9, overflowTicks := halfAt b 10, nightGroup := b 12, autoLogin := b 13 }
  | 0x03 => .memberAdd h (b 0) (halfAt b 1) (b 3) (b 4) (b 5)
  | 0x04 => .memberRemove h (b 0) (halfAt b 1)
  | 0x05 => .announceSet h
      { group := b 0, pageGroup := b 1, priority := b 2, channel := b 3, tone := b 4, length := halfAt b 5,
        arrivalCount := b 7, duringCount := b 8, delay := halfAt b 9 }
  | 0x06 => .beaconSet h (b 0) (b 1) (b 2) (halfAt b 3)
  | 0x07 => .pickupGroupSet h (b 0) (b 1) (b 2) (b 3) (b 4)
  | 0x08 => .classSet h
      { cls := b 0, capabilities := b 1, recallTicks := halfAt b 2, coverageTicks := halfAt b 4, directory := b 6,
        entry := b 7 }
  | 0x09 => .directorySet h (b 0) (b 1) (b 2)
  | 0x0A => .entrySet h
      { entry := b 0, pageGroup := b 1, priority := b 2, sourceKind := b 3, preludeChannel := b 4, preludeTone := b 5,
        preludeTicks := halfAt b 6, maxDuration := halfAt b 8, waitTicks := halfAt b 10 }
  | 0x0B => .pageGroupSet h
      { pageGroup := b 0, kind := b 1, target := b 2, zones := zonesAt b 3, ceiling0 := b 9, ceiling1 := b 10,
        ceiling2 := b 11, ceiling3 := b 12, label := halfAt b 13 }
  | 0x0C => .cadenceSet h (b 0) (b 1) (halfAt b 2) (halfAt b 4)
  | 0x0D => .moduleSet h (b 0) (b 1)
  | 0x10 => .stationQuery h (halfAt b 0)
  | 0x11 => .callQuery h (b 0) (b 1)
  | 0x12 => .groupQuery h (b 0) (b 1)
  | 0x13 => .pickupGroupQuery h (b 0) (b 1)
  | 0x14 => .orbitQuery h (b 0)
  | 0x15 => .classQuery h (b 0)
  | 0x16 => .directoryQuery h (b 0)
  | 0x17 => .entryQuery h (b 0)
  | 0x18 => .pageGroupQuery h (b 0)
  | 0x19 => .pageQuery h (b 0) (b 1)
  | 0x1A => .busQuery h (b 0)
  | 0x1B => .alertQuery h (b 0)
  | 0x1C => .moduleQuery h (b 0)
  | 0x1D => .zoneQuery h (b 0)
  | 0x1F => .storeQuery h
  | 0x20 => .status h
  | 0x21 => .groupMode h (b 0) (b 1)
  | 0x22 => .storeSave h
  | 0x23 => .start h
  | 0x24 => .restart h
  | 0x30 => stationEventOf h (halfAt b 0) (b 2)
  | 0x31 => .callOffer h (b 0) (halfAt b 1) (b 3) (halfAt b 4)
  | 0x32 => .callGone h (b 0) (b 1)
  | 0x33 => .memberLogin h (halfAt b 0) (b 2)
  | 0x34 => .memberLogout h (halfAt b 0) (b 2)
  | 0x35 => .groupPickup h (halfAt b 0) (b 2) (b 3)
  | 0x36 => .directedPickup h (halfAt b 0) (halfAt b 2) (b 4)
  | 0x37 => .queuePickup h (halfAt b 0) (b 2)
  | 0x38 => .park h (halfAt b 0) (b 2) (b 3) (b 4) (b 5)
  | 0x39 => .retrieve h (halfAt b 0) (b 2) (b 3)
  | 0x3A => .page h (halfAt b 0) (b 2) (b 3) (b 4)
  | 0x3B => .pageEnd h (b 0) (b 1) (halfAt b 2)
  | 0x3C => .summon h (halfAt b 0) (b 2)
  | 0x3D => .summonHush h (halfAt b 0) (b 2)
  | 0x3E => .zoneRestore h (b 0) (b 1)
  | 0x3F => .zoneService h (b 0) (b 1)
  | _ => .unknownRequest h kind

/-- The body bytes of a request, from the fields of its constructor. -/
def bodyOfRequest : Instr → List Byte
  | .stationSet _ station cls pickup coverage service label =>
      halfBytes station ++ [cls, pickup, coverage, service] ++ halfBytes label
  | .groupSet _ v =>
      [v.group, v.action, v.method] ++ halfBytes v.noAnswer ++ halfBytes v.wrapup ++
      [v.roundLimit, v.queueLimit, v.overflowGroup] ++ halfBytes v.overflowTicks ++ [v.nightGroup, v.autoLogin]
  | .memberAdd _ group station weight listPos prefPos => [group] ++ halfBytes station ++ [weight, listPos, prefPos]
  | .memberRemove _ group station => [group] ++ halfBytes station
  | .announceSet _ v =>
      [v.group, v.pageGroup, v.priority, v.channel, v.tone] ++ halfBytes v.length ++ [v.arrivalCount, v.duringCount] ++
      halfBytes v.delay
  | .beaconSet _ group zone channel debounce => [group, zone, channel] ++ halfBytes debounce
  | .pickupGroupSet _ group count link0 link1 link2 => [group, count, link0, link1, link2]
  | .classSet _ v =>
      [v.cls, v.capabilities] ++ halfBytes v.recallTicks ++ halfBytes v.coverageTicks ++ [v.directory, v.entry]
  | .directorySet _ directory base length => [directory, base, length]
  | .entrySet _ v =>
      [v.entry, v.pageGroup, v.priority, v.sourceKind, v.preludeChannel, v.preludeTone] ++ halfBytes v.preludeTicks ++
      halfBytes v.maxDuration ++ halfBytes v.waitTicks
  | .pageGroupSet _ v =>
      [v.pageGroup, v.kind, v.target] ++ zoneBytes v.zones ++ [v.ceiling0, v.ceiling1, v.ceiling2, v.ceiling3] ++
      halfBytes v.label
  | .cadenceSet _ channel slot period onTicks => [channel, slot] ++ halfBytes period ++ halfBytes onTicks
  | .moduleSet _ moduleNo kind => [moduleNo, kind]
  | .stationQuery _ station => halfBytes station
  | .callQuery h call part => [call] ++ partBytes h part
  | .groupQuery h group part => [group] ++ partBytes h part
  | .pickupGroupQuery h group part => [group] ++ partBytes h part
  | .orbitQuery _ orbit => [orbit]
  | .classQuery _ cls => [cls]
  | .directoryQuery _ directory => [directory]
  | .entryQuery _ entry => [entry]
  | .pageGroupQuery _ pageGroup => [pageGroup]
  | .pageQuery h page part => [page] ++ partBytes h part
  | .busQuery _ bus => [bus]
  | .alertQuery _ channel => [channel]
  | .moduleQuery _ moduleNo => [moduleNo]
  | .zoneQuery _ zone => [zone]
  | .storeQuery _ => []
  | .status _ => []
  | .groupMode _ group mode => [group, mode]
  | .storeSave _ => []
  | .start _ => []
  | .restart _ => []
  | .callOffer _ kind target priority hostRef => [kind] ++ halfBytes target ++ [priority] ++ halfBytes hostRef
  | .callGone _ call generation => [call, generation]
  | .memberLogin _ station group => halfBytes station ++ [group]
  | .memberLogout _ station group => halfBytes station ++ [group]
  | .groupPickup _ station call generation => halfBytes station ++ [call, generation]
  | .directedPickup _ station target generation => halfBytes station ++ halfBytes target ++ [generation]
  | .queuePickup _ station group => halfBytes station ++ [group]
  | .park _ station orbit announce directory entry => halfBytes station ++ [orbit, announce, directory, entry]
  | .retrieve _ station orbit generation => halfBytes station ++ [orbit, generation]
  | .page _ requester directory entry source => halfBytes requester ++ [directory, entry, source]
  | .pageEnd _ page generation requester => [page, generation] ++ halfBytes requester
  | .summon _ requester group => halfBytes requester ++ [group]
  | .summonHush _ requester group => halfBytes requester ++ [group]
  | .zoneRestore _ zone generation => [zone, generation]
  | .zoneService _ zone setting => [zone, setting]
  | .offHook _ station event => halfBytes station ++ [event]
  | .onHook _ station event => halfBytes station ++ [event]
  | .serviceOff _ station event => halfBytes station ++ [event]
  | .serviceOn _ station event => halfBytes station ++ [event]
  | .dndOn _ station event => halfBytes station ++ [event]
  | .dndOff _ station event => halfBytes station ++ [event]
  | _ => []

/-! ## Request frames (11.1, R166, R167) -/

/-- The command that a frame on the control link makes: none while the frame is not complete; a sum error when its sum is bad;
otherwise the request of its kind. -/
def commandOfFrame (frame : List Byte) : Option Instr :=
  match frame with
  | kind :: len :: tag :: rest =>
    if 60 < len.toNat ∨ rest.length ≠ len.toNat + 1 then none
    else if frameSum frame ≠ 0 then some (.frameSumError frame)
    else some (requestOfBody kind { tag := tag, length := len } fun i => (rest.take len.toNat).getD i 0)
  | _ => none

/-- The frame that carries a request; none for a command that is no request. -/
def frameOfRequest (i : Instr) : Option (List Byte) :=
  match i.request? with
  | some (kind, h) => some (Machine.frameBytes kind h.tag (bodyOfRequest i))
  | none => none

/-! ## Answers on the field line (R149, R188) -/

/-- The command that a complete answer makes while an exchange with a command code is in flight: the answer of its row when the
sum, the command code, the data length and the content are good, an invalid answer otherwise. The address and the settings are
compared with those sent by the row's own meaning. -/
def commandOfAnswer (code : Byte) (frame : List Byte) : Instr :=
  if frameSum frame ≠ 0 then .invalidAnswer frame
  else
    match code.toNat, frame with
    | 1, [a, c, kind, revision, _] =>
      if c = 1 ∧ (kind = 1 ∨ kind = 2) then .identifyAnswer a kind revision else .invalidAnswer frame
    | 2, [a, c, x, y, _] =>
      if c = 2 ∧ settingCode x ∧ settingCode y then .routeAnswer a x y else .invalidAnswer frame
    | 3, [a, c, vh, vl, wh, wl, _] =>
      if c = 3 ∧ statusCode (vh ++ vl) ∧ statusCode (wh ++ wl) then .pollAnswer a (vh ++ vl) (wh ++ wl)
      else .invalidAnswer frame
    | _, _ => .invalidAnswer frame

end Sys2Proof
end

