-- ==== Sys2Proof/Machine/Flags.lean ====
section
/-!
DEFINITION. The flags of the part that more than one block touches: the lost flag with the report queue it watches (R170), and
the referenced flags of the page groups (R106).
-/

namespace Sys2Proof.Machine

/-- A rule queues a report: it joins the tail, or meets a full queue, is discarded and sets the lost flag (R170). -/
def queueReport (s : State) (r : Report) : State :=
  s.modCl fun c =>
    if c.reports.length < Config.reportLimit then { c with reports := c.reports ++ [r] } else { c with lost := true }

/-- The referenced flags of every entry of a created page's chain are set (R106). -/
def setReferenced (s : State) (chain : List PageGroupId) : State :=
  chain.foldl (fun t g => t.modPageGroup g fun p => { p with referenced := true }) s

/-- PAGE GROUP QUERY clears the flag of the entry it reads (R110). -/
def clearReferenced (s : State) (g : PageGroupId) : State := s.modPageGroup g fun p => { p with referenced := false }

end Sys2Proof.Machine
end

