-- ==== Sys2Proof/Machine/Operands.lean ====
section
/-!
DEFINITION. How the fields of a request body are read: the ranges and the none, console, ALL, ANY and END codes of R185. A field
that does not read is out of range, and its request is refused BAD VALUE under its own rule.
-/

namespace Sys2Proof.Machine

/-- A record number below `n`. -/
def readFin (n : Nat) (x : Nat) : Option (Fin n) := if h : x < n then some ⟨x, h⟩ else none

/-- A one-byte record number, or 0xFF for none, ALL or ANY. -/
def readOpt (n : Nat) (x : Byte) : Option (Option (Fin n)) :=
  if x = 0xFF then some none else (readFin n x.toNat).map some

/-- A number that is at most `hi` and at least `lo`. -/
def readRange (lo hi : Nat) (x : Nat) : Option Nat := if lo ≤ x ∧ x ≤ hi then some x else none

/-- A flag: 0 or 1. -/
def readFlag (x : Byte) : Option Bool := if x = 0 then some false else if x = 1 then some true else none

/-- A station number 0..383. -/
def readStation (x : Half) : Option StationId := readFin 384 x.toNat

/-- Who asks for a page, a page's end or a summon. -/
inductive Requester where
  | station (x : StationId)
  | console
deriving DecidableEq, Repr

/-- A requester: a station number, or 0xFFFE for the console. -/
def readRequester (x : Half) : Option Requester :=
  if x = 0xFFFE then some .console else (readStation x).map .station

/-- A position of an insertion: a number, or 0xFF for END, which is the position after the last entry. -/
def readPosition (hi len : Nat) (x : Byte) : Option Nat :=
  if x = 0xFF then some len else if x.toNat ≤ hi ∧ x.toNat ≤ len then some x.toNat else none

def readMethod (x : Byte) : Option Method :=
  match x.toNat with
  | 0 => some .linear | 1 => some .circular | 2 => some .even | 3 => some .longestIdle | 4 => some .weighted
  | 5 => some .ringAll | _ => none

def readService (x : Byte) : Option StartService :=
  match x.toNat with
  | 0 => some .inService | 1 => some .out | _ => none

/-- The modes of GROUP MODE, 1..3. -/
def readMode (x : Byte) : Option ServiceState :=
  match x.toNat with
  | 1 => some .inService | 2 => some .night | 3 => some .closed | _ => none

def readSourceKind (x : Byte) : Option SourceKind :=
  match x.toNat with
  | 0 => some .voice | 1 => some .prompt | _ => none

def readModuleType (x : Byte) : Option ModuleType :=
  match x.toNat with
  | 0 => some .none | 1 => some .amp | 2 => some .beacon | _ => none

def readSlot (x : Byte) : Option Slot :=
  match x.toNat with
  | 0 => some .a | 1 => some .b | _ => none

/-- The zones of a 48-bit zone map, in ascending order. -/
def readZones (w : BitVec 48) : List ZoneId := allWhere fun z => w.getLsbD z.val

/-- A page code: a directory 0..7 and an entry 0..127, or 0xFF twice for none. -/
def readPageCode (d e : Byte) : Option (Option (DirectoryId × EntryId)) :=
  if d = 0xFF ∧ e = 0xFF then some none
  else
    match readFin 8 d.toNat, readFin 128 e.toNat with
    | some d, some e => some (some (d, e))
    | _, _ => none

end Sys2Proof.Machine
end

