-- ==== Sys2Proof/Machine/Link.lean ====
section
/-!
DEFINITION. The Control Link's shared operations (chapter 9): what happens to a frame that is complete, the reply list, the
transmitter. Every command's meaning ends in `finish`, and every request's meaning goes through `request`.
-/

namespace Sys2Proof.Machine

/-- What one step answers. -/
abbrev Result := Host.Outcome State Fault Refusal

/-! ## The transmitter (R169) -/

/-- The transmitter's choice: the head of the reply list if it is READY, otherwise the head of the report queue, otherwise
nothing. -/
def chooseFrame (s : State) : State :=
  match s.cl.replies with
  | r :: rs =>
    if r.waiting then
      match s.cl.reports with
      | n :: ns => s.modCl fun c => { c with tx := .sending (.report n), reports := ns }
      | [] => s.modCl fun c => { c with tx := .idle }
    else s.modCl fun c => { c with tx := .sending (.reply r), replies := rs }
  | [] =>
    match s.cl.reports with
    | n :: ns => s.modCl fun c => { c with tx := .sending (.report n), reports := ns }
    | [] => s.modCl fun c => { c with tx := .idle }

/-- The end of every event: an IDLE transmitter chooses. A reply is placed when its request has been taken whole, so it goes
out before the reports that the request produced (R169). Between the end of the RESTART reply and the warm restart nothing
is chosen (R175 step 5). -/
def finish (s : State) : State :=
  match s.cl.tx with
  | .sending _ => s
  | .idle => if s.cl.restart = .replySent then s else chooseFrame s

/-! ## The reply list (R167, R168) -/

/-- A reply is placed at the tail of the reply list, with the lost flag as it stands. -/
def placeReply (s : State) (kind tag : Byte) (waiting : Bool) (code : Code) (fields : List Byte) : State :=
  s.modCl fun c =>
    { c with replies := c.replies ++ [{ kind := kind, tag := tag, waiting := waiting, code := code, lost := c.lost,
                                        fields := fields }] }

/-- A WAITING reply is made READY with its outcome, its fields and the lost flag as it stands. -/
def makeReady (s : State) (code : Code) (fields : List Byte) : State :=
  s.modCl fun c =>
    { c with replies := c.replies.map fun r =>
        if r.waiting then { r with waiting := false, code := code, lost := c.lost, fields := fields } else r }

/-! ## Complete frames (R166, R167, R172) -/

/-- A LINK ERROR notice: the bytes received, and the kind and tag bytes where they were received (R172, 11.3). -/
def linkError (s : State) (cause : LinkCause) (received : Nat) (kind tag : Option Byte) : State :=
  queueReport s (.linkError cause (min received 255) kind tag)

/-- A LINK ERROR notice about the bytes of a frame. -/
def linkErrorBytes (s : State) (cause : LinkCause) (bytes : List Byte) : State :=
  linkError s cause bytes.length bytes[0]? bytes[2]?

/-- What becomes of a frame that is complete: while a RESTART is under way, or after a length error, its bytes are discarded;
with 8 replies in the reply list it is an overrun; otherwise it is checked. -/
inductive Intake where
  | discarded | overrun | checked
deriving DecidableEq, Repr

def intake (s : State) : Intake :=
  if s.cl.restart ≠ .none then .discarded
  else if s.cl.framer = .discarding then .discarded
  else if Config.replyLimit ≤ s.cl.replies.length then .overrun
  else .checked

/-- The bytes of a frame that the framer holds. -/
def framerHolds (s : State) : List Byte :=
  match s.cl.framer with
  | .collecting bs => bs
  | _ => []

/-- A frame that begins with these bytes continues the one the framer is collecting: the bytes it holds and the frame's first
bytes agree as far as both go. In HUNT every frame does. -/
def framerContinues (s : State) (first : List Byte) : Bool :=
  (framerHolds s).take first.length == first.take (framerHolds s).length

/-- What becomes of a complete frame whose first bytes are given. One that does not continue the bytes the framer holds does not
complete: its command is no event and leaves no trace (assumption 33). -/
def intakeOf (s : State) (first : List Byte) : Intake := if framerContinues s first then intake s else .discarded

/-- The framer returns to HUNT. -/
def framerHunt (s : State) : State := s.modCl fun c => { c with framer := .hunt }

/-- What a request's owner answers: a refusal, which changes nothing (R168); the state after the request with the reply's
fields; or the state of an operation whose reply waits for its completion. -/
inductive Answer where
  | refuse (code : Code)
  | ok (s : State) (fields : List Byte)
  | wait (s : State)

/-- The reply to a request that was checked. A refusal carries no fields, the IN USE of ENTRY SET and PAGE GROUP SET included
(R167; assumption 42). -/
def answer (s : State) (kind tag : Byte) : Answer → State
  | .refuse code => placeReply s kind tag false code []
  | .ok t fields => placeReply t kind tag false .ok fields
  | .wait t => placeReply t kind tag true .ok []

/-- A complete request frame with a good sum: the frame check of R166 and R167 in order, then the owner's rule. `lengths`
holds the body lengths that table 11.2 allows for the kind. -/
def request (s : State) (kind : Byte) (lengths : List Nat) (h : Header) (owner : State → Answer) : State :=
  match intakeOf s [kind, h.length, h.tag] with
  | .discarded => s
  | .overrun => finish (linkError (framerHunt s) .overrun (4 + h.length.toNat) (some kind) (some h.tag))
  | .checked =>
    let t := framerHunt s
    if h.length.toNat ∈ lengths then finish (answer t kind h.tag (owner t))
    else finish (answer t kind h.tag (.refuse .badLength))

/-- The part is in RUN, where every request is taken under its own rule (R173). -/
def State.running (s : State) : Bool := s.cl.mode == .run

/-- A store save is running (R180). -/
def State.isSaving (s : State) : Bool :=
  match s.cs.state with
  | .saving _ _ => true
  | _ => false

end Sys2Proof.Machine
end

