-- ==== Sys2Proof/Machine/Alert.lean ====
section
/-!
DEFINITION. The Alert Generator (chapter 7): claims, the cadence, output changes; and the channel a beacon zone follows (R144)
with the desired routes it hands to the field line (R116, R156).
-/

namespace Sys2Proof.Machine

/-! ## Outputs (R143) -/

/-- The 16 channel outputs, channel k in bit k. -/
def outputWord (s : State) : BitVec 16 :=
  (List.finRange 16).foldl (fun w k => if (s.channel k).output then w ||| (1#16 <<< k.val) else w) 0#16

/-- The outputs as they stand become the pending alert broadcast, replacing any not yet sent (R143, R157). A broadcast on the
line keeps the outputs it was taken with (assumption 40). -/
def setAlert (s : State) : State := { s with flc := { s.flc with alert := some (outputWord s) } }

/-- Channel `k` is changed; an output change is handed on (R143). The gating of the buses follows from the channel itself
(`busCarries`). -/
def changeChannel (s : State) (k : ChannelId) (f : Channel → Channel) : State :=
  let t := s.modChannel k f
  if (t.channel k).output = (s.channel k).output then t else setAlert t

/-! ## The channel record (7.1) -/

/-- The user count: the claims of every kind (R137). -/
def Claims.count (c : Claims) : Nat := c.prelude + c.tone + c.emergency + c.group

def Claims.add (c : Claims) : ClaimKind → Claims
  | .prelude => { c with prelude := c.prelude + 1 }
  | .tone => { c with tone := c.tone + 1 }
  | .emergency => { c with emergency := c.emergency + 1 }
  | .group => { c with group := c.group + 1 }

def Claims.remove (c : Claims) : ClaimKind → Claims
  | .prelude => { c with prelude := c.prelude - 1 }
  | .tone => { c with tone := c.tone - 1 }
  | .emergency => { c with emergency := c.emergency - 1 }
  | .group => { c with group := c.group - 1 }

/-- The cadence of a slot. -/
def Channel.slot (c : Channel) : Slot → Cadence
  | .a => c.slotA
  | .b => c.slotB

/-- The cadence the channel runs. -/
def Channel.cadence (c : Channel) : Cadence := c.slot c.active

def Slot.other : Slot → Slot
  | .a => .b
  | .b => .a

/-- A period begins: a pending slot becomes active, the phase is 0, and the output is on when the now-active on-ticks are
above 0 (R138, R140, R142). -/
def Channel.beginPeriod (c : Channel) (now : Tick) : Channel :=
  let d := if c.pending then { c with active := c.active.other, pending := false } else c
  { d with phase := 0, stepTick := now, output := decide (0 < d.cadence.on) }

/-- A claim is placed: it counts, and the first one starts the channel (R138). -/
def placeClaim (s : State) (k : ChannelId) (kind : ClaimKind) : State :=
  changeChannel s k fun c =>
    let d := { c with claims := c.claims.add kind }
    if c.claims.count = 0 then { d.beginPeriod s.now with running := true } else d

/-- A claim is dropped: the last one to leave stops the channel with its output off, keeping the active slot and the pending
flag (R139). The step tick is kept too (assumption 39). -/
def dropClaim (s : State) (k : ChannelId) (kind : ClaimKind) : State :=
  changeChannel s k fun c =>
    let d := { c with claims := c.claims.remove kind }
    if d.claims.count = 0 then { d with running := false, phase := 0, output := false } else d

/-- One advance of a RUNNING channel at counter value `now` (R140). -/
def Channel.advance (c : Channel) (now : Tick) : Channel :=
  if c.phase + 1 ≥ c.cadence.period then c.beginPeriod now
  else { c with phase := c.phase + 1, stepTick := now, output := decide (c.phase + 1 < c.cadence.on) }

/-- The effect of CADENCE SET on a channel (R142). -/
def Channel.write (c : Channel) (slot : Slot) (v : Cadence) (now : Tick) : Channel :=
  let d := match slot with
    | .a => { c with slotA := v }
    | .b => { c with slotB := v }
  if slot ≠ c.active then { d with pending := true }
  else if ¬ c.running then d
  else if v.period ≤ c.phase then d.beginPeriod now
  else { d with output := decide (c.phase < v.on) }

/-! ## Routes (R116, R156) -/

/-- The setting a zone's module channel should have: its desired route while it is IN SERVICE, off otherwise. -/
def settingOf (s : State) (z : ZoneId) : Setting :=
  if (s.zone z).service = .inService then (s.zone z).route else none

/-- The pending route of a PRESENT module is set from the desired routes of both its zones, replacing any not yet sent; a
module in another state gets none. -/
def setPendingRoute (s : State) (m : ModuleId) : State :=
  if (s.fieldModule m).state = .present then
    s.modModule m fun d => { d with pendingRoute := some { a := settingOf s (zoneA m), b := settingOf s (zoneB m) } }
  else s

/-- A zone's desired route becomes `r`, and the change is handed to the field line. -/
def setRoute (s : State) (z : ZoneId) (r : Setting) : State :=
  setPendingRoute (s.modZone z fun d => { d with route := r }) (moduleOf z)

/-! ## Which channel a beacon zone follows (R144, R145) -/

/-- The live EMERGENCY page that decides for zone `z`: of those that hold it, the one that started earliest, the lowest
number among equal start ticks. -/
def emergencyHolder (s : State) (z : ZoneId) : Option PageId :=
  firstBy (fun p q =>
      match (s.page p).startTick, (s.page q).startTick with
      | some a, some b => earlier s.now a b
      | _, _ => false)
    (allWhere fun p => (s.page p).beacons.contains z && (s.page p).state != .ended)

/-- A group's beacon claims zone `z`: it is ON or DEBOUNCE and names the zone (R73). -/
def beaconClaims (g : Group) (z : ZoneId) : Bool := g.beacon.state != .off && g.beaconP.zone == some z

/-- The lowest-numbered group whose beacon claims zone `z`. -/
def groupHolder (s : State) (z : ZoneId) : Option GroupId := lowestWhere fun g => beaconClaims (s.group g) z

/-- The claim that decides a beacon zone (R144, R187). -/
inductive FollowClaim where
  | page (p : PageId)
  | group (g : GroupId)
  | none
deriving DecidableEq, Repr

def followClaim (s : State) (z : ZoneId) : FollowClaim :=
  if (s.zone z).service ≠ .inService ∨ (s.zone z).kind ≠ .beacon then .none
  else
    match emergencyHolder s z with
    | some p => .page p
    | Option.none =>
      match groupHolder s z with
      | some g => .group g
      | Option.none => .none

/-- The channel zone `z` follows by R144. -/
def followChannel (s : State) (z : ZoneId) : Option ChannelId :=
  match followClaim s z with
  | .page p => some (s.page p).preludeChannel
  | .group g => some (s.group g).beaconP.channel
  | .none => none

/-- The choice of R144 is made again for a zone; a beacon zone whose choice changed gets a new activity and desired route
(R145). The zone of a lost or absent strobe is not handled here: the loss itself clears it (R130). -/
def refollow (s : State) (z : ZoneId) : State :=
  let k := followChannel s z
  if k = (s.zone z).follow then s
  else setRoute (s.modZone z fun d => { d with follow := k }) z k

end Sys2Proof.Machine
end

