-- ==== Sys2Proof/Machine/Directory.lean ====
section
/-!
DEFINITION. The Page Directory (chapter 5): resolution of page codes and page groups, the entries in use, and the requests that
write and query its three tables.
-/

namespace Sys2Proof.Machine

/-! ## Resolution (R102 to R105) -/

/-- The chain from page group `g` (R102 step 2): the entries reached and the zone list that ends it, or why there is none.
`hops` is how many more hops may be made. -/
def followChain (s : State) : Nat → PageGroupId → Except Code (List PageGroupId × List ZoneId)
  | hops, g =>
    match (s.pageGroup g).cfg.kind with
    | .empty => .error .noSuchCode
    | .direct zones => .ok ([g], zones)
    | .indirect target =>
      match hops with
      | 0 => .error .chainTooLong
      | hops + 1 =>
        match followChain s hops target with
        | .ok (chain, zones) => .ok (g :: chain, zones)
        | .error e => .error e

/-- The requester of a resolution: a station of a class, or the console. -/
inductive Rights where
  | cls (k : ClassId)
  | console
deriving DecidableEq, Repr

/-- The access check of R103: the ceiling of the chain's first entry for the requester, against the code's priority. -/
def accessGranted (s : State) (g0 : PageGroupId) (rights : Rights) (priority : Priority) : Bool :=
  match rights with
  | .console => true
  | .cls k =>
    match (s.pageGroup g0).cfg.ceilings[k] with
    | none => false
    | some ceiling => priority ≤ ceiling

/-- What a successful resolution of a page code hands over (R104). -/
structure Resolved where
  entry : EntryId
  code : CodeEntry
  chain : List PageGroupId
  zones : List ZoneId

/-- The code entry that entry number `i` of directory `d` reaches; none past the directory's length (R102 step 1). -/
def codeEntryOf (s : State) (d : DirectoryId) (i : Nat) : Option EntryId :=
  if i < (s.directory d).length then readFin 128 ((s.directory d).base + i) else none

/-- The resolution of a page code (R102): code lookup, chain, ceiling, in that order. -/
def resolveCode (s : State) (d : DirectoryId) (i : Nat) (rights : Rights) : Except Code Resolved :=
  match codeEntryOf s d i with
  | none => .error .noSuchCode
  | some e =>
    match (s.entry e).pageGroup with
    | none => .error .noSuchCode
    | some g0 =>
      match followChain s Config.hopLimit g0 with
      | .error c => .error c
      | .ok (chain, zones) =>
        if accessGranted s g0 rights (s.entry e).priority then
          .ok { entry := e, code := s.entry e, chain := chain, zones := zones }
        else .error .denied

/-! ## Entries in use (R107) -/

/-- A page record is live in every state but ENDED (R113). -/
def Page.live (p : Page) : Bool := p.state != .ended

/-- How many live pages rest on a code entry. -/
def liveOnEntry (s : State) (e : EntryId) : Nat :=
  (allWhere fun p => (s.page p).live && (s.page p).codeEntry == some e).length

/-- How many live pages rest on a page group entry; a page counts once however often its chain passes through it. -/
def liveOnGroup (s : State) (g : PageGroupId) : Nat :=
  (allWhere fun p => (s.page p).live && (s.page p).chain.contains g).length

/-! ## DIRECTORY SET (R99) -/

def directorySetOwner (directory base length : Byte) (s : State) : Answer :=
  match readFin 8 directory.toNat, readRange 0 127 base.toNat, readRange 0 128 length.toNat with
  | some d, some b, some n =>
    if 128 < b + n then .refuse .badValue
    else if s.isSaving then .refuse .storeBusy
    else .ok (s.modDirectory d fun _ => { base := b, length := n }) []
  | _, _, _ => .refuse .badValue

/-- DIRECTORY SET. -/
def execDirectorySet (h : Header) (directory base length : Byte) (s : State) : Result :=
  .next (request s 0x09 [3] h (directorySetOwner directory base length))

/-! ## ENTRY SET (R100) -/

/-- The fields of an ENTRY SET body, when all are in range. -/
def readEntry (b : EntrySetBody) : Option CodeEntry :=
  match readOpt 64 b.pageGroup, readFin 4 b.priority.toNat, readSourceKind b.sourceKind,
    readFin 16 b.preludeChannel.toNat, readFin 4 b.preludeTone.toNat, readRange 0 500 b.preludeTicks.toNat,
    readRange 100 30000 b.maxDuration.toNat, readRange 0 6000 b.waitTicks.toNat with
  | some pg, some pr, some sk, some pc, some pt, some pn, some md, some wt =>
    some { pageGroup := pg, priority := pr, sourceKind := sk, preludeChannel := pc, preludeTone := pt, preludeTicks := pn,
           maxDuration := md, waitTicks := wt }
  | _, _, _, _, _, _, _, _ => none

def entrySetOwner (b : EntrySetBody) (s : State) : Answer :=
  match readFin 128 b.entry.toNat, readEntry b with
  | some e, some v =>
    if s.isSaving then .refuse .storeBusy
    else if v.pageGroup = none ∧ 0 < liveOnEntry s e then .refuse .inUse
    else .ok (s.modEntry e fun _ => v) (enc8 (liveOnEntry s e))
  | _, _ => .refuse .badValue

/-- ENTRY SET. -/
def execEntrySet (h : Header) (b : EntrySetBody) (s : State) : Result :=
  .next (request s 0x0A [12] h (entrySetOwner b))

/-! ## PAGE GROUP SET (R101) -/

/-- What a PAGE GROUP SET body names: the target byte is read for INDIRECT only, the zone set for DIRECT only (11.2). -/
def readPageGroupKind (g : PageGroupId) (b : PageGroupSetBody) : Option PageGroupKind :=
  match b.kind.toNat with
  | 0 => some .empty
  | 1 => if readZones b.zones = [] then none else some (.direct (readZones b.zones))
  | 2 =>
    match readFin 64 b.target.toNat with
    | some t => if t = g then none else some (.indirect t)
    | none => none
  | _ => none

/-- The stored fields of a PAGE GROUP SET body, when all are in range. -/
def readPageGroup (g : PageGroupId) (b : PageGroupSetBody) : Option PageGroupCfg :=
  match readPageGroupKind g b, readOpt 4 b.ceiling0, readOpt 4 b.ceiling1, readOpt 4 b.ceiling2, readOpt 4 b.ceiling3 with
  | some k, some c0, some c1, some c2, some c3 => some { kind := k, ceilings := #v[c0, c1, c2, c3], label := b.label }
  | _, _, _, _, _ => none

def pageGroupSetOwner (b : PageGroupSetBody) (s : State) : Answer :=
  match readFin 64 b.pageGroup.toNat with
  | none => .refuse .badValue
  | some g =>
    match readPageGroup g b with
    | none => .refuse .badValue
    | some v =>
      if s.isSaving then .refuse .storeBusy
      else if v.kind = .empty ∧ 0 < liveOnGroup s g then .refuse .inUse
      else .ok (s.modPageGroup g fun p => { p with cfg := v }) (enc8 (liveOnGroup s g))

/-- PAGE GROUP SET. -/
def execPageGroupSet (h : Header) (b : PageGroupSetBody) (s : State) : Result :=
  .next (request s 0x0B [15] h (pageGroupSetOwner b))

/-! ## Queries (R109, R110) -/

def directoryQueryOwner (directory : Byte) (s : State) : Answer :=
  match readFin 8 directory.toNat with
  | none => .refuse .badValue
  | some d => .ok s (enc8 (s.directory d).base ++ enc8 (s.directory d).length)

/-- DIRECTORY QUERY. -/
def execDirectoryQuery (h : Header) (directory : Byte) (s : State) : Result :=
  .next (request s 0x16 [1] h (directoryQueryOwner directory))

/-- The fields of a code entry in the order of 5.2. -/
def CodeEntry.fields (e : CodeEntry) : List Byte :=
  encOpt e.pageGroup ++ enc8 e.priority.val ++ [e.sourceKind.code] ++ enc8 e.preludeChannel.val ++ enc8 e.preludeTone.val ++
    enc16 e.preludeTicks ++ enc16 e.maxDuration ++ enc16 e.waitTicks

def entryQueryOwner (entry : Byte) (s : State) : Answer :=
  match readFin 128 entry.toNat with
  | none => .refuse .badValue
  | some e => .ok s ((s.entry e).fields ++ encBool (s.entry e).pageGroup.isSome ++ enc8 (liveOnEntry s e))

/-- ENTRY QUERY. -/
def execEntryQuery (h : Header) (entry : Byte) (s : State) : Result :=
  .next (request s 0x17 [1] h (entryQueryOwner entry))

def PageGroupKind.code : PageGroupKind → Byte
  | .empty => 0
  | .direct _ => 1
  | .indirect _ => 2

/-- Type, zone list, target (0xFF unless INDIRECT), ceilings and host label (R110). A zone set has no absent code (R185): that an
EMPTY or INDIRECT entry, which has no zone list, gives the map of no zones is assumption 43. -/
def PageGroupCfg.fields (p : PageGroupCfg) : List Byte :=
  [p.kind.code] ++
  (match p.kind with
    | .direct zs => encZones zs
    | _ => encZones []) ++
  (match p.kind with
    | .indirect t => enc8 t.val
    | _ => [absent8]) ++
  encOpt p.ceilings[0] ++ encOpt p.ceilings[1] ++ encOpt p.ceilings[2] ++ encOpt p.ceilings[3] ++ enc16 p.label.toNat

/-- The reply carries the referenced flag as it stood; the query then clears it (R110). -/
def pageGroupQueryOwner (pageGroup : Byte) (s : State) : Answer :=
  match readFin 64 pageGroup.toNat with
  | none => .refuse .badValue
  | some g =>
    .ok (clearReferenced s g)
      ((s.pageGroup g).cfg.fields ++ enc8 (liveOnGroup s g) ++ encBool (s.pageGroup g).referenced)

/-- PAGE GROUP QUERY. -/
def execPageGroupQuery (h : Header) (pageGroup : Byte) (s : State) : Result :=
  .next (request s 0x18 [1] h (pageGroupQueryOwner pageGroup))

end Sys2Proof.Machine
end

