-- ==== Sys2Proof/Machine/Paging.lean ====
section
/-!
DEFINITION. The Paging Controller (chapter 6): page records, buses, zones, the start attempt, the start and the end of a page,
the queue scan, and the loss and return of a zone.
-/

namespace Sys2Proof.Machine

/-! ## Notices (R132) -/

/-- A PAGE STATE notice for page `p` as it stands. -/
def pageNotice (s : State) (p : PageId) (event : PageEvent) : State :=
  let r := s.page p
  queueReport s (.pageState p r.gen r.origin r.priority event r.state r.bus r.audible.length
    (if event = .ended then r.endCause else none))

/-! ## Buses (R115) -/

/-- What a bus highway output slot carries. -/
inductive BusAudio where
  | silence
  | slot (n : SlotId)
  | prompt
  | tone (t : ToneId)
deriving DecidableEq, Repr

/-- What bus `b` carries at this moment: a tone sounds while its channel's output is on (R115, R143). -/
def busCarries (s : State) (b : BusId) : BusAudio :=
  match (s.bus b).source with
  | .silent => .silence
  | .slot n => .slot n
  | .prompt => .prompt
  | .tone k t => if (s.channel k).output then .tone t else .silence

/-- A bus is free when its page is absent. -/
def freeBus (s : State) : Option BusId := lowestWhere fun b => (s.bus b).page.isNone

/-- A bus as a route setting. -/
def busSetting (b : BusId) : Setting := some ⟨b.val, by omega⟩

/-! ## Takeable zones (R117) -/

/-- Zone `z` of the requested set is takeable for a page of the given priority. -/
def takeable (s : State) (priority : Priority) (requested : List ZoneId) (z : ZoneId) : Bool :=
  (s.zone z).kind == .speaker && (s.zone z).service == .inService && requested.contains z &&
    match (s.zone z).playing with
    | none => true
    | some q => (s.page q).priority < priority

/-- Some zone is takeable for the page. -/
def anyTakeable (s : State) (priority : Priority) (requested : List ZoneId) : Bool :=
  requested.any (takeable s priority requested)

/-! ## The main source (R123) -/

/-- The page takes its main source. -/
def takeMainSource (s : State) (p : PageId) (b : BusId) : State :=
  match (s.page p).source with
  | .slot n => s.modBus b fun d => { d with source := .slot n }
  | .prompt n =>
    queueReport (s.modBus b fun d => { d with source := .prompt }) (.playPrompt p (s.page p).gen b n)
  | .tone k t => placeClaim (s.modBus b fun d => { d with source := .tone k t }) k .tone

/-! ## Held and resumed pages (R124) -/

/-- A page whose last audible zone went, while it stands on a stack somewhere, goes HELD. -/
def holdPage (s : State) (q : PageId) : State := pageNotice (s.modPage q fun r => { r with state := .held }) q .held

/-- A HELD page that a zone resumes goes PRELUDE while its prelude deadline is present, PLAYING otherwise. -/
def resumePage (s : State) (q : PageId) : State :=
  if (s.page q).state = .held then
    pageNotice (s.modPage q fun r => { r with state := if r.preludeDl.isSome then .prelude else .playing }) q .resumed
  else s

/-! ## The start of a page (R121, R122) -/

/-- One takeable zone is taken by page `p` on bus `b` (R121 step 3). -/
def takeZone (p : PageId) (b : BusId) (s : State) (z : ZoneId) : State :=
  if takeable s (s.page p).priority (s.page p).requested z then
    let t :=
      match (s.zone z).playing with
      | none => s
      | some q =>
        let t := s.modZone z fun d => { d with stack := d.stack ++ [q] }
        let t := t.modPage q fun r => { r with audible := r.audible.erase z, suspended := insertAsc z r.suspended }
        if (t.page q).audible = [] then holdPage t q else t
    let t := t.modZone z fun d => { d with playing := some p }
    let t := t.modPage p fun r => { r with audible := insertAsc z r.audible }
    setRoute t z (busSetting b)
  else s

/-- The beacon zones of the page's set that an EMERGENCY page takes at its start (R122). -/
def claimableBeacons (s : State) (p : PageId) : List ZoneId :=
  (s.page p).requested.filter fun z => (s.zone z).kind == .beacon && (s.zone z).service == .inService

/-- An EMERGENCY page takes its beacon zones: one claim each on the prelude channel, and the zones choose again (R122). -/
def claimBeacons (s : State) (p : PageId) : State :=
  if (s.page p).priority = 3 then
    let zs := claimableBeacons s p
    let k := (s.page p).preludeChannel
    let t := zs.foldl (fun t z => placeClaim (t.modPage p fun r => { r with beacons := insertAsc z r.beacons }) k .emergency) s
    zs.foldl refollow t
  else s

/-- The start of page `p` on bus `b`, in the steps of R121. -/
def startPage (s : State) (p : PageId) (b : BusId) : State :=
  let s := { s with pgc := { s.pgc with queue := s.pgc.queue.erase p } }
  let s := s.modBus b fun d => { d with page := some p }
  let s := s.modPage p fun r => { r with bus := some b, startTick := some s.now, waitDl := none }
  let s := (s.page p).requested.foldl (takeZone p b) s
  let s := claimBeacons s p
  let r := s.page p
  let s :=
    if r.kind ≠ .tone ∧ r.preludeTicks ≠ 0 then
      let s := s.modBus b fun d => { d with source := .tone r.preludeChannel r.preludeTone }
      let s := placeClaim s r.preludeChannel .prelude
      s.modPage p fun r => { r with preludeDl := some (after s.now r.preludeTicks), state := .prelude }
    else
      (takeMainSource s p b).modPage p fun r => { r with state := .playing }
  let s := s.modPage p fun r => { r with endDl := some (after s.now r.maxDuration) }
  pageNotice s p .started

/-! ## The queue scan (R126) -/

/-- One page of the queue scan: it starts on the lowest-numbered free bus when it has a takeable zone. -/
def scanPage (s : State) (p : PageId) : State :=
  match freeBus s with
  | none => s
  | some b => if anyTakeable s (s.page p).priority (s.page p).requested then startPage s p b else s

/-- The queue scan, in queue order. -/
def queueScan (s : State) : State := s.pgc.queue.foldl scanPage s

/-! ## The end of a page (R125) -/

/-- A zone of an ending page's audible set pops its stack (R125 step 2). -/
def popZone (s : State) (z : ZoneId) : State :=
  match (s.zone z).stack.getLast? with
  | none => setRoute (s.modZone z fun d => { d with playing := none }) z none
  | some q =>
    let s := s.modZone z fun d => { d with playing := some q, stack := d.stack.dropLast }
    let s := s.modPage q fun r => { r with suspended := r.suspended.erase z, audible := insertAsc z r.audible }
    let s := setRoute s z ((s.page q).bus.bind busSetting)
    resumePage s q

/-- The claims an ending page holds are dropped, and the beacon zones it held choose again (R125 step 4, R145). -/
def dropPageClaims (s : State) (p : PageId) : State :=
  let r := s.page p
  let s := s.modPage p fun r => { r with beacons := [] }
  let s := r.beacons.foldl (fun s _ => dropClaim s r.preludeChannel .emergency) s
  let s := if r.preludeDl.isSome then dropClaim s r.preludeChannel .prelude else s
  let s :=
    match r.source, r.bus with
    | .tone k _, some _ => dropClaim s k .tone
    | _, _ => s
  r.beacons.foldl refollow s

/-- The station whose voice page ends loses it. -/
def dropVoicePage (s : State) (p : PageId) : State :=
  match (s.page p).origin with
  | .station x => s.modStation x fun t => if t.voicePage = some p then { t with voicePage := none } else t
  | _ => s

/-- The Distribution Engine takes the end of group `g`'s live announcement page (R68). With the announcement page group none at
that moment, the state becomes IDLE (R67); a page group set to none and set again while the page plays counts as set
(assumption 36). -/
def announcementEnded (s : State) (p : PageId) (g : GroupId) : State :=
  s.modGroup g fun r =>
    if r.ann.live = some (p, (s.page p).gen) then
      if r.queue ≠ [] ∧ r.annP.pageGroup.isSome then
        { r with ann := { state := .armed, counter := 0, delayDl := afterOpt s.now r.annP.delay, live := none } }
      else { r with ann := { state := .idle, counter := 0, delayDl := none, live := none } }
    else r

/-- The Pickup and Park Unit takes the end of a park announcement page: the call holds none (R94). -/
def parkPageEnded (s : State) (p : PageId) (c : CallId) : State :=
  s.modCall c fun d =>
    if d.annPage = some (p, (s.page p).gen) then { d with annPage := none } else d

/-- The owner of an ended page's origin takes the end (R125 step 8). -/
def ownerTakesEnd (s : State) (p : PageId) (cause : EndCause) : State :=
  match (s.page p).origin with
  | .groupAnnouncement g => announcementEnded s p g
  | .parkAnnouncement c _ _ => if cause = .withdrawn then s else parkPageEnded s p c
  | _ => s

/-- A page ends, without the queue scan (R125 steps 1 to 8). -/
def endPageNoScan (s : State) (p : PageId) (cause : EndCause) : State :=
  let s := { s with pgc := { s.pgc with queue := s.pgc.queue.erase p } }
  let s := (s.page p).audible.foldl popZone s
  let s := (s.page p).suspended.foldl (fun s z => s.modZone z fun d => { d with stack := d.stack.erase p }) s
  let s := dropPageClaims s p
  let s :=
    match (s.page p).bus with
    | some b => s.modBus b fun _ => Bus.free
    | none => s
  let s := dropVoicePage s p
  let s := s.modPage p fun r =>
    { r with audible := [], suspended := [], bus := none, waitDl := none, preludeDl := none, endDl := none,
             state := .ended, endCause := some cause }
  let s := pageNotice s p .ended
  ownerTakesEnd s p cause

/-- A page ends, with the queue scan that follows every end but a victim's (R125). -/
def endPage (s : State) (p : PageId) (cause : EndCause) : State := queueScan (endPageNoScan s p cause)

/-- A withdrawal: the page ends when the record is live at that generation (R129). -/
def withdrawPage (s : State) (p : PageId) (gen : Byte) : State :=
  if (s.page p).live ∧ (s.page p).gen = gen then endPage s p .withdrawn else s

/-- An extension: the end deadline of a page live at that generation becomes now plus the length, unless it is later already
(R70, R129). -/
def extendPage (s : State) (p : PageId) (gen : Byte) (length : Nat) : State :=
  if (s.page p).live ∧ (s.page p).gen = gen then
    s.modPage p fun r =>
      match r.endDl with
      | some d => if length < remaining s.now d then r else { r with endDl := some (after s.now length) }
      | none => r
  else s

/-! ## The start attempt (R119, R120) -/

/-- What a page is created from: the resolution result with the request's own parameters. -/
structure PageRequest where
  kind : PageKind
  origin : Origin
  priority : Priority
  zones : List ZoneId
  source : PageSource
  preludeChannel : ChannelId
  preludeTone : ToneId
  preludeTicks : Nat
  maxDuration : Nat
  waitTicks : Nat
  codeEntry : Option EntryId
  chain : List PageGroupId

/-- The victim of a page of the given priority: of the bus holders below it the one of lowest priority, then the one with the
latest start tick, then the lowest page number (R120). -/
def victim (s : State) (priority : Priority) : Option PageId :=
  firstBy (fun p q =>
      if (s.page p).priority = (s.page q).priority then
        match (s.page p).startTick, (s.page q).startTick with
        | some a, some b => earlier s.now b a
        | _, _ => false
      else (s.page p).priority < (s.page q).priority)
    (allWhere fun p => (s.page p).bus.isSome && (s.page p).priority < priority)

/-- A record is taken for a new page (R113): its generation steps, the referenced flags of its chain are set (R106), and the
station of a VOICE page holds it. -/
def createPage (s : State) (p : PageId) (q : PageRequest) : State :=
  let s := s.modPage p fun r =>
    { Page.ended (nextGen r.gen) with
      state := .queued, kind := q.kind, origin := q.origin, priority := q.priority, requested := q.zones,
      source := q.source, preludeChannel := q.preludeChannel, preludeTone := q.preludeTone,
      preludeTicks := q.preludeTicks, maxDuration := q.maxDuration, waitTicks := q.waitTicks,
      codeEntry := q.codeEntry, chain := q.chain, requestTick := s.now }
  let s := setReferenced s q.chain
  match q.kind, q.origin with
  | .voice, .station x => s.modStation x fun t => { t with voicePage := some p }
  | _, _ => s

/-- The order of the page queue: priority, then request tick, then page number (R114). -/
def pagePrecedes (s : State) (p q : PageId) : Bool :=
  if (s.page p).priority = (s.page q).priority then
    if (s.page p).requestTick = (s.page q).requestTick then p < q
    else earlier s.now (s.page p).requestTick (s.page q).requestTick
  else (s.page q).priority < (s.page p).priority

/-- A created page joins the page queue with its wait deadline (R114). -/
def enqueuePage (s : State) (p : PageId) : State :=
  let s := s.modPage p fun r => { r with waitDl := afterOpt r.requestTick r.waitTicks }
  { s with pgc := { s.pgc with queue := insertBy (pagePrecedes s) p s.pgc.queue } }

/-- What an accepted start attempt leaves. -/
structure Started where
  state : State
  page : PageId
  cut : Option (PageId × Byte)

/-- The start attempt of R119. -/
def startAttempt (s : State) (q : PageRequest) : Except Code Started :=
  match lowestWhere fun p => (s.page p).state == .ended with
  | none => .error .noResource
  | some p =>
    if ¬ anyTakeable s q.priority q.zones then
      if q.waitTicks = 0 then .error .noZones
      else .ok { state := enqueuePage (createPage s p q) p, page := p, cut := none }
    else
      match freeBus s with
      | some b => .ok { state := startPage (createPage s p q) p b, page := p, cut := none }
      | none =>
        match victim s q.priority with
        | some v =>
          match (s.page v).bus with
          | some b =>
            .ok { state := startPage (createPage (endPageNoScan s v .cut) p q) p b, page := p,
                  cut := some (v, (s.page v).gen) }
          | none => .error .noResource
        | none =>
          if q.waitTicks = 0 then .error .noResource
          else .ok { state := enqueuePage (createPage s p q) p, page := p, cut := none }

/-! ## Zone losses and returns (R130, R131) -/

/-- A page touched by the loss of a zone is held, ended, or unchanged (R130 step 5). -/
def examinePage (s : State) (p : PageId) : State :=
  let r := s.page p
  if r.live ∧ r.state ≠ .queued ∧ r.audible = [] then
    if r.suspended = [] then endPage s p .noZones
    else if r.state = .held then s
    else holdPage s p
  else s

/-- A zone is lost: the Field Line Controller has taken it out of IN SERVICE (R130). -/
def zoneLost (s : State) (z : ZoneId) : State :=
  let playing := (s.zone z).playing
  let stack := (s.zone z).stack
  let s :=
    match playing with
    | some p => s.modPage p fun r => { r with audible := r.audible.erase z }
    | none => s
  let s := stack.foldl (fun s q => s.modPage q fun r => { r with suspended := r.suspended.erase z }) s
  let holders := allWhere fun p => (s.page p).beacons.contains z
  let s := holders.foldl (fun s p =>
      dropClaim (s.modPage p fun r => { r with beacons := r.beacons.erase z }) (s.page p).preludeChannel .emergency) s
  let changed := (s.zone z).route != none
  let s := s.modZone z fun d => { d with playing := none, stack := [], follow := none, route := none }
  let s := if changed then setPendingRoute s (moduleOf z) else s
  (allWhere fun p => playing == some p || stack.contains p).foldl examinePage s

/-- A zone returns to IN SERVICE with a kind: a speaker zone starts the queue scan, a beacon zone chooses its channel
(R131). -/
def zoneReturned (s : State) (z : ZoneId) : State :=
  match (s.zone z).kind with
  | .speaker => queueScan s
  | .beacon => refollow s z
  | .none => s

end Sys2Proof.Machine
end

