-- ==== Sys2Proof/Machine/Announce.lean ====
section
/-!
DEFINITION. The announcement and the beacon of a hunt group (3.6, 3.7) and the requests and expiries that act on them.
-/

namespace Sys2Proof.Machine

/-! ## Small changes of a group -/

def modAnn (s : State) (g : GroupId) (f : AnnLive → AnnLive) : State := s.modGroup g fun r => { r with ann := f r.ann }
def modBeacon (s : State) (g : GroupId) (f : BeaconLive → BeaconLive) : State :=
  s.modGroup g fun r => { r with beacon := f r.beacon }

/-- A QUEUE STATE notice for group `g`, with the length of its queue as it stands (R55). -/
def queueNotice (s : State) (g : GroupId) (event : QueueEvent) : State :=
  queueReport s (.queueState g event (s.group g).queue.length)

/-- A call as a QUEUE STATE notice names it. -/
def callRef (s : State) (c : CallId) : CallRef := { call := c, gen := (s.call c).gen, redirects := (s.call c).redirects }

/-! ## The announcement (R68 to R70) -/

/-- The page a group's announcement asks for (R69, R105). It has no prelude: the record's prelude fields, which no rule reads
and no reply shows for a TONE page, hold 0 (assumption 37). -/
def announcementRequest (g : GroupId) (a : AnnParams) (chain : List PageGroupId) (zones : List ZoneId) : PageRequest :=
  { kind := .tone, origin := .groupAnnouncement g, priority := a.priority, zones := zones,
    source := .tone a.channel a.tone, preludeChannel := 0, preludeTone := 0, preludeTicks := 0,
    maxDuration := a.length, waitTicks := 0, codeEntry := none, chain := chain }

/-- The start attempt of a group's announcement: the chain of its page group, with no ceiling read (R105). -/
def announcementAttempt (s : State) (g : GroupId) : Except Code Started :=
  match (s.group g).annP.pageGroup with
  | none => .error .noSuchCode
  | some pg =>
    match followChain s Config.hopLimit pg with
    | .error c => .error c
    | .ok (chain, zones) => startAttempt s (announcementRequest g (s.group g).annP chain zones)

/-- What a trigger came to: the page created, or the refusal code. -/
abbrev TriggerResult := Except Code (PageId × Byte)

/-- The announcement of group `g` triggers (R69). -/
def triggerAnnouncement (s : State) (g : GroupId) : State × TriggerResult :=
  let s := modAnn s g fun a => { a with counter := 0, delayDl := none }
  match announcementAttempt s g with
  | .ok r =>
    let live := (r.page, (r.state.page r.page).gen)
    (modAnn r.state g fun a => { a with state := .live, live := some live }, .ok live)
  | .error c =>
    let t := queueNotice s g (.announceRefused c)
    (modAnn t g fun a =>
      if (t.group g).queue ≠ [] then { a with state := .armed, delayDl := afterOpt t.now (t.group g).annP.delay }
      else { a with state := .idle }, .error c)

/-- The live page of group `g` is extended by the announcement length (R70). -/
def extendAnnouncement (s : State) (g : GroupId) : State :=
  match (s.group g).ann.live with
  | some (p, gen) => extendPage s p gen (s.group g).annP.length
  | none => s

/-- The counter's count of one more join; it does not rise above 32 (3.6). -/
def countJoin (n : Nat) : Nat := if n < 32 then n + 1 else n

/-- A join has reached a nonzero count. -/
def countReached (count n : Nat) : Bool := count != 0 && count ≤ n

/-- The announcement takes a join of group `g`'s queue as an arrival (R68); with the page group none it does not (R67). -/
def announcementJoin (s : State) (g : GroupId) : State :=
  let p := (s.group g).annP
  if p.pageGroup = none then s
  else
    match (s.group g).ann.state with
    | .idle =>
      let t := modAnn s g fun a => { a with state := .armed, counter := 1, delayDl := afterOpt s.now p.delay }
      if p.arrivalCount = 1 then (triggerAnnouncement t g).1 else t
    | .armed =>
      let t := modAnn s g fun a => { a with counter := countJoin a.counter }
      if countReached p.arrivalCount (t.group g).ann.counter then (triggerAnnouncement t g).1 else t
    | .live =>
      let t := modAnn s g fun a => { a with counter := countJoin a.counter }
      if countReached p.duringCount (t.group g).ann.counter then
        extendAnnouncement (modAnn t g fun a => { a with counter := 0 }) g
      else t

/-- The announcement takes the queue-empty event (R68). -/
def announcementEmpty (s : State) (g : GroupId) : State :=
  if (s.group g).annP.pageGroup.isSome ∧ (s.group g).ann.state = .armed then
    modAnn s g fun a => { a with state := .idle, counter := 0, delayDl := none }
  else s

/-! ## The beacon (R73) -/

/-- The beacon goes ON from OFF: it takes its claim, and its zone chooses again. -/
def beaconOn (s : State) (g : GroupId) (z : ZoneId) : State :=
  let s := modBeacon s g fun _ => { state := .on, dl := none }
  refollow (placeClaim s (s.group g).beaconP.channel .group) z

/-- The beacon goes OFF: it drops its claim, and its zone chooses again. -/
def beaconOff (s : State) (g : GroupId) : State :=
  let s := modBeacon s g fun _ => { state := .off, dl := none }
  let s := dropClaim s (s.group g).beaconP.channel .group
  match (s.group g).beaconP.zone with
  | some z => refollow s z
  | none => s

/-- A call joins group `g`'s empty queue. -/
def beaconJoin (s : State) (g : GroupId) : State :=
  match (s.group g).beacon.state with
  | .off =>
    match (s.group g).beaconP.zone with
    | some z => beaconOn s g z
    | none => s
  | .on => s
  | .debounce => modBeacon s g fun _ => { state := .on, dl := none }

/-- Group `g`'s queue becomes empty. -/
def beaconEmpty (s : State) (g : GroupId) : State :=
  match (s.group g).beacon.state with
  | .on =>
    if (s.group g).beaconP.debounce = 0 then beaconOff s g
    else modBeacon s g fun _ => { state := .debounce, dl := some (after s.now (s.group g).beaconP.debounce) }
  | _ => s

/-! ## ANNOUNCE SET (R67) -/

/-- The fields of an ANNOUNCE SET body, when all are in range. -/
def readAnnounce (b : AnnounceSetBody) : Option AnnParams :=
  match readOpt 64 b.pageGroup, readFin 4 b.priority.toNat, readFin 16 b.channel.toNat, readFin 4 b.tone.toNat,
    readRange 100 6000 b.length.toNat, readRange 0 32 b.arrivalCount.toNat, readRange 0 32 b.duringCount.toNat,
    readRange 0 60000 b.delay.toNat with
  | some pg, some pr, some ch, some tn, some ln, some ac, some dc, some dl =>
    if pr ≤ 2 then
      some { pageGroup := pg, priority := pr, channel := ch, tone := tn, length := ln, arrivalCount := ac,
             duringCount := dc, delay := dl }
    else none
  | _, _, _, _, _, _, _, _ => none

/-- The parameters are stored; a page group of none in ARMED makes the announcement IDLE. -/
def storeAnnounce (s : State) (g : GroupId) (p : AnnParams) : State :=
  s.modGroup g fun r =>
    { r with
      annP := p
      ann := if p.pageGroup = none ∧ r.ann.state = .armed then { r.ann with state := .idle, counter := 0, delayDl := none }
             else r.ann }

def announceSetOwner (b : AnnounceSetBody) (s : State) : Answer :=
  match readFin 64 b.group.toNat, readAnnounce b with
  | some g, some p =>
    if (s.group g).service = .unused then .refuse .badValue
    else if s.isSaving then .refuse .storeBusy
    else
      let t := storeAnnounce s g p
      .ok t [(t.group g).ann.state.code]
  | _, _ => .refuse .badValue

/-- ANNOUNCE SET. -/
def execAnnounceSet (h : Header) (b : AnnounceSetBody) (s : State) : Result :=
  .next (request s 0x05 [11] h (announceSetOwner b))

/-! ## BEACON SET (R74) -/

/-- The fields of a BEACON SET body, when all are in range. -/
def readBeacon (zone channel : Byte) (debounce : Half) : Option BeaconParams :=
  match readOpt 48 zone, readFin 16 channel.toNat, readRange 0 6000 debounce.toNat with
  | some z, some k, some d => some { zone := z, channel := k, debounce := d }
  | _, _, _ => none

/-- A zone chooses again, if there is one. -/
def refollowOpt (s : State) (z : Option ZoneId) : State :=
  match z with
  | some z => refollow s z
  | none => s

/-- The old and the new zone of a moved claim choose again, in ascending zone order (R145). -/
def refollowPair (s : State) (a b : Option ZoneId) : State :=
  match a, b with
  | some x, some y => if y < x then refollow (refollow s y) x else refollow (refollow s x) y
  | a, b => refollowOpt (refollowOpt s a) b

/-- The beacon parameters are stored and act on the live state. -/
def storeBeacon (s : State) (g : GroupId) (p : BeaconParams) : State :=
  let old := (s.group g).beaconP
  let t := s.modGroup g fun r => { r with beaconP := p }
  match (s.group g).beacon.state with
  | .off =>
    match p.zone with
    | some z => if old.zone = none ∧ (s.group g).queue ≠ [] then beaconOn t g z else t
    | none => t
  | _ =>
    match p.zone with
    | none =>
      let t := modBeacon t g fun _ => { state := .off, dl := none }
      refollowOpt (dropClaim t old.channel .group) old.zone
    | some _ =>
      let t := if p.channel = old.channel then t else dropClaim (placeClaim t p.channel .group) old.channel .group
      refollowPair t old.zone p.zone

def beaconSetOwner (group zone channel : Byte) (debounce : Half) (s : State) : Answer :=
  match readFin 64 group.toNat, readBeacon zone channel debounce with
  | some g, some p =>
    if (s.group g).service = .unused then .refuse .badValue
    else if s.isSaving then .refuse .storeBusy
    else
      let t := storeBeacon s g p
      .ok t [(t.group g).beacon.state.code]
  | _, _ => .refuse .badValue

/-- BEACON SET. -/
def execBeaconSet (h : Header) (group zone channel : Byte) (debounce : Half) (s : State) : Result :=
  .next (request s 0x06 [5] h (beaconSetOwner group zone channel debounce))

/-! ## SUMMON and SUMMON HUSH (R71) -/

/-- The requester's class has the summon capability; the console holds every capability. -/
def maySummon (s : State) : Requester → Bool
  | .station x => (s.classOf x).summon
  | .console => true

/-- The checks that SUMMON and SUMMON HUSH share, in their order: the group, or the refusal. -/
def summonCheck (s : State) (requester : Half) (group : Byte) : Except Code GroupId :=
  if ¬ s.running then .error .notRunning
  else
    match readRequester requester, readFin 64 group.toNat with
    | some r, some g =>
      if (s.group g).service = .unused then .error .badValue
      else if ¬ maySummon s r then .error .denied
      else if (s.group g).annP.pageGroup = none then .error .wrongState
      else .ok g
    | _, _ => .error .badValue

/-- The announcement state and the live page of a SUMMON or SUMMON HUSH reply. -/
def announcementFields (s : State) (g : GroupId) : List Byte := [(s.group g).ann.state.code] ++ encRef (s.group g).ann.live

/-- The announce field of a reply: an outcome code, and the page created or extended (R187). -/
def announceField : TriggerResult → List Byte
  | .ok r => Code.ok.code :: encRef (some r)
  | .error c => c.code :: encRef (none : Option (PageId × Byte))

/-- What a SUMMON does to group `g`'s announcement. -/
def summonGroup (s : State) (g : GroupId) : State × TriggerResult :=
  match (s.group g).ann.state, (s.group g).ann.live with
  | .live, some r => (extendAnnouncement (modAnn s g fun a => { a with counter := 0 }) g, .ok r)
  | _, _ => triggerAnnouncement s g

def summonOwner (requester : Half) (group : Byte) (s : State) : Answer :=
  match summonCheck s requester group with
  | .error c => .refuse c
  | .ok g =>
    let (t, r) := summonGroup s g
    .ok t (announcementFields t g ++ announceField r)

/-- SUMMON. -/
def execSummon (h : Header) (requester : Half) (group : Byte) (s : State) : Result :=
  .next (request s 0x3C [3] h (summonOwner requester group))

/-- What a SUMMON HUSH does to group `g`'s announcement. -/
def hushGroup (s : State) (g : GroupId) : State :=
  match (s.group g).ann.state with
  | .idle => s
  | .armed => modAnn s g fun a => { a with counter := 0, delayDl := afterOpt s.now (s.group g).annP.delay }
  | .live => modAnn s g fun a => { a with counter := 0 }

def summonHushOwner (requester : Half) (group : Byte) (s : State) : Answer :=
  match summonCheck s requester group with
  | .error c => .refuse c
  | .ok g => .ok (hushGroup s g) (announcementFields (hushGroup s g) g)

/-- SUMMON HUSH. -/
def execSummonHush (h : Header) (requester : Half) (group : Byte) (s : State) : Result :=
  .next (request s 0x3D [3] h (summonHushOwner requester group))

/-! ## Expiries (R68, R73) -/

/-- ANNOUNCE DELAY EXPIRY: the announcement triggers. A delay that is not due expires nothing (R1). -/
def execAnnounceDelayExpiry (g : GroupId) (s : State) : Result :=
  .next <|
    if (s.group g).ann.state = .armed ∧ due s.now (s.group g).ann.delayDl then finish (triggerAnnouncement s g).1 else s

/-- DEBOUNCE EXPIRY: the beacon goes OFF and drops its claim. -/
def execDebounceExpiry (g : GroupId) (s : State) : Result :=
  .next <|
    if (s.group g).beacon.state = .debounce ∧ due s.now (s.group g).beacon.dl then finish (beaconOff s g) else s

end Sys2Proof.Machine
end

