-- ==== Sys2Proof/Machine/Channels.lean ====
section
/-!
DEFINITION. The Alert Generator's commands: CADENCE SET, CADENCE ADVANCE and ALERT QUERY (chapter 7).
-/

namespace Sys2Proof.Machine

/-! ## CADENCE SET (R142) -/

/-- The cadence of a CADENCE SET body, when its period and on-ticks are in range. -/
def readCadence (period onTicks : Half) : Option Cadence :=
  match readRange 1 1000 period.toNat, readRange 0 period.toNat onTicks.toNat with
  | some p, some n => some { period := p, on := n }
  | _, _ => none

/-- The channel's active slot, pending flag, run state and output. The run state is sent as a flag, 0 STOPPED and 1 RUNNING
(assumption 38). -/
def Channel.replyFields (c : Channel) : List Byte :=
  [c.active.code] ++ encBool c.pending ++ encBool c.running ++ encBool c.output

def cadenceSetOwner (channel slot : Byte) (period onTicks : Half) (s : State) : Answer :=
  match readFin 16 channel.toNat, readSlot slot, readCadence period onTicks with
  | some k, some sl, some v =>
    if s.isSaving then .refuse .storeBusy
    else
      let t := changeChannel s k fun c => c.write sl v s.now
      .ok t (t.channel k).replyFields
  | _, _, _ => .refuse .badValue

/-- CADENCE SET. -/
def execCadenceSet (h : Header) (channel slot : Byte) (period onTicks : Half) (s : State) : Result :=
  .next (request s 0x0C [6] h (cadenceSetOwner channel slot period onTicks))

/-! ## CADENCE ADVANCE (R140) -/

/-- CADENCE ADVANCE: a RUNNING channel whose step tick is not the counter's value advances; any other is not changed. -/
def execCadenceAdvance (k : ChannelId) (s : State) : Result :=
  .next <|
    if (s.channel k).running ∧ (s.channel k).stepTick ≠ s.now then
      finish (changeChannel s k fun c => c.advance s.now)
    else s

/-! ## ALERT QUERY (R146) -/

def Cadence.fields (v : Cadence) : List Byte := enc16 v.period ++ enc16 v.on

/-- Both slots, the active slot, the pending flag, the run state, the phase, the output, the user count and its split. The run
state is sent as a flag, 0 STOPPED and 1 RUNNING (assumption 38). -/
def Channel.fields (c : Channel) : List Byte :=
  c.slotA.fields ++ c.slotB.fields ++ [c.active.code] ++ encBool c.pending ++ encBool c.running ++ enc16 c.phase ++
    encBool c.output ++ enc16 c.claims.count ++ enc16 c.claims.prelude ++ enc16 c.claims.tone ++ enc16 c.claims.emergency ++
    enc16 c.claims.group

def alertQueryOwner (channel : Byte) (s : State) : Answer :=
  match readFin 16 channel.toNat with
  | none => .refuse .badValue
  | some k => .ok s (s.channel k).fields

/-- ALERT QUERY. -/
def execAlertQuery (h : Header) (channel : Byte) (s : State) : Result :=
  .next (request s 0x1B [1] h (alertQueryOwner channel))

end Sys2Proof.Machine
end

