-- ==== Sys2Proof/Machine/Ringing.lean ====
section
/-!
DEFINITION. Joining and leaving a ringing set with the ring lists that follow it (R4, R77), the group queues (R53, R54), and the
selection of members (R33, R36 to R41).
-/

namespace Sys2Proof.Machine

/-! ## Ring lists (R77) -/

/-- The order of a ring list: ring start tick, then call id. -/
def ringPrecedes (now : Tick) (a b : RingEntry) : Bool :=
  if a.start = b.start then a.call < b.call else earlier now a.start b.start

/-- Call `c` enters pickup group `p`'s ring list, unless it stands there already. -/
def enterRingList (s : State) (c : CallId) (p : PickupId) : State :=
  s.modPickup p fun r =>
    if r.ring.any fun e => e.call == c then r
    else { r with ring := insertBy (ringPrecedes s.now) { call := c, start := s.now } r.ring }

/-- Call `c` leaves pickup group `p`'s ring list when no station of `p` remains in its ringing set. -/
def leaveRingList (s : State) (c : CallId) (p : PickupId) : State :=
  if (s.call c).ringing.any fun y => (s.station y).cfg.pickup == some p then s
  else s.modPickup p fun r => { r with ring := r.ring.filter fun e => e.call != c }

/-- Call `c` is removed from every ring list (R8, R19, R81). -/
def leaveRingLists (s : State) (c : CallId) : State :=
  { s with ppu := { s.ppu with
      pickups := mapTable (fun r => { r with ring := r.ring.filter fun e => e.call != c }) s.ppu.pickups } }

/-! ## Joins and leaves (R4, R5) -/

/-- Station `x` joins the ringing set of call `c`. -/
def ringJoin (s : State) (c : CallId) (reason : RingReason) (x : StationId) : State :=
  let s := s.modStation x fun t => { t with state := .ringing, call := some c, ringGen := nextGen t.ringGen }
  let s := s.modCall c fun d => { d with ringing := insertAsc x d.ringing }
  let s := queueReport s
    (.ring x (s.station x).cfg.label c (s.call c).gen (s.station x).ringGen reason (s.call c).hostRef)
  match (s.station x).cfg.pickup with
  | some p => enterRingList s c p
  | none => s

/-- Station `x` leaves the ringing set of call `c` without answering, with a STOP RING, and goes to state `next`: IDLE with its
idle-since stamp unchanged (R3), or the state the rule that caused the leave puts it in. -/
def ringLeave (s : State) (c : CallId) (next : StationState) (x : StationId) : State :=
  let s := queueReport s (.stopRing x c (s.call c).gen (s.call c).hostRef)
  let s := s.modStation x fun t => { t with state := next, call := none }
  let s := s.modCall c fun d => { d with ringing := d.ringing.erase x }
  match (s.station x).cfg.pickup with
  | some p => leaveRingList s c p
  | none => s

/-- Every station of a list leaves the ringing set of call `c` for IDLE, in the list's order. -/
def ringLeaveAll (s : State) (c : CallId) (xs : List StationId) : State := xs.foldl (fun s x => ringLeave s c .idle x) s

/-! ## The group queue (R53, R54) -/

/-- The order of a group queue: priority, then offer tick, then call id. -/
def queuePrecedes (s : State) (c d : CallId) : Bool :=
  if (s.call c).priority = (s.call d).priority then
    if (s.call c).offerTick = (s.call d).offerTick then c < d
    else earlier s.now (s.call c).offerTick (s.call d).offerTick
  else (s.call d).priority < (s.call c).priority

/-- Call `c` joins the queue of group `g` (R53). -/
def queueJoin (s : State) (g : GroupId) (c : CallId) : State :=
  let wasEmpty := (s.group g).queue.isEmpty
  let s := s.modGroup g fun r => { r with queue := insertBy (queuePrecedes s) c r.queue }
  let s := s.modCall c fun d => { d with state := .queued, ringDl := none }
  let s := if wasEmpty then queueNotice s g .nonEmpty else s
  let s := announcementJoin s g
  if wasEmpty then beaconJoin s g else s

/-- Call `c` leaves the queue of group `g`, with the departure effects (R54). -/
def queueLeave (s : State) (g : GroupId) (c : CallId) : State :=
  let s := s.modGroup g fun r => { r with queue := r.queue.erase c }
  if (s.group g).queue.isEmpty then beaconEmpty (announcementEmpty (queueNotice s g .empty) g) g else s

/-- Call `c` leaves the queue of its current group, if it stands there. -/
def leaveQueueIfQueued (s : State) (c : CallId) : State :=
  match (s.call c).current with
  | some g => if (s.call c).state = .queued ∧ (s.group g).queue.contains c then queueLeave s g c else s
  | none => s

/-- The queue of group `g` has room for call `c`, which is not counted if it stands there. -/
def queueRoom (s : State) (g : GroupId) (c : CallId) : Bool :=
  ((s.group g).queue.erase c).length < (s.group g).cfg.queueLimit

/-! ## Availability (R33) -/

/-- A member entry of group `g` is available but for the tried set. -/
def memberFree (s : State) (g : GroupId) (m : Member) : Bool :=
  (s.station m.station).available && m.loggedIn && (s.group g).service == .inService

/-- A member entry of group `g` is available for call `c`. -/
def memberAvailable (s : State) (g : GroupId) (c : CallId) (m : Member) : Bool :=
  memberFree s g m && !(s.call c).tried.contains m.station

/-- Some member of `g` is available for `c`. -/
def anyAvailable (s : State) (g : GroupId) (c : CallId) : Bool := (s.group g).members.any (memberAvailable s g c)

/-- Some member of `g` is available, tried or untried. -/
def anyFree (s : State) (g : GroupId) : Bool := (s.group g).members.any (memberFree s g)

/-! ## Selection (R36 to R41) -/

/-- The station's entry in a member list. -/
def entryOf (g : Group) (x : StationId) : Option Member := g.members.find? fun m => m.station == x

/-- Every offered flag is cleared. -/
def clearOffered (g : Group) : Group := { g with members := g.members.map fun m => { m with offered := false } }

/-- The offered flag of a station's entry is set. -/
def setOffered (g : Group) (x : StationId) : Group :=
  { g with members := g.members.map fun m => if m.station = x then { m with offered := true } else m }

/-- A credit, held at its limits (R40). -/
def clampCredit (c : Int) : Int := max Config.creditMin (min Config.creditMax c)

/-- The list indexes from the one after position `p` to the end, then from 0 to `p` (R37). -/
def circularOrder (p len : Nat) : List Nat := (List.range len).filter (p < ·) ++ (List.range len).filter (· ≤ p)

/-- CIRCULAR: the first available member after the circular position, which moves to it (R37). -/
def selectCircular (g : Group) (avail : Member → Bool) : Option (StationId × Group) :=
  let ok (i : Nat) : Bool := match g.members[i]? with
    | some m => avail m
    | none => false
  match (circularOrder g.circ g.members.length).find? ok with
  | some i => g.members[i]?.map fun m => (m.station, { g with circ := i })
  | none => none

/-- EVEN: the first available member whose offered flag is clear, every flag being cleared first when none is left (R38). -/
def selectEven (g : Group) (avail : Member → Bool) : Option (StationId × Group) :=
  let g := if (g.members.filter avail).all fun m => m.offered then clearOffered g else g
  (g.members.find? fun m => avail m && !m.offered).map fun m => (m.station, setOffered g m.station)

/-- WEIGHTED: credits rise by weight, the highest is selected and pays the sum of the weights (R40). -/
def selectWeighted (g : Group) (avail : Member → Bool) : Option (StationId × Group) :=
  let sum : Nat := ((g.members.filter avail).map fun m => m.weight).sum
  let raised := g.members.map fun m => if avail m then { m with credit := clampCredit (m.credit + m.weight) } else m
  match firstBy (fun a b => b.credit < a.credit) (raised.filter avail) with
  | some m =>
    some (m.station, { g with members := raised.map fun e =>
      if e.station = m.station then { e with credit := clampCredit (e.credit - sum) } else e })
  | none => none

/-- What the group's method selects for call `c`: the stations to ring, in member-list order, and the group with the method's
bookkeeping; none when no member is available for the call. -/
def selectFor (s : State) (g : GroupId) (c : CallId) : Option (List StationId × Group) :=
  let r := s.group g
  let avail := memberAvailable s g c
  let one (x : Option (StationId × Group)) : Option (List StationId × Group) := x.map fun (a, b) => ([a], b)
  match r.cfg.method with
  | .linear => one ((r.members.find? avail).map fun m => (m.station, r))
  | .circular => one (selectCircular r avail)
  | .even => one (selectEven r avail)
  | .longestIdle =>
    one ((firstBy (fun a b => earlier s.now (s.station a.station).idleSince (s.station b.station).idleSince)
      (r.members.filter avail)).map fun m => (m.station, r))
  | .weighted => one (selectWeighted r avail)
  | .ringAll =>
    match r.members.filter avail with
    | [] => none
    | ms => some (ms.map fun m => m.station, r)

/-- The bookkeeping of the group's method when the arbiter gives a call to station `x` (R35). -/
def arbiterBookkeeping (g : Group) (x : StationId) : Group :=
  match g.cfg.method with
  | .circular =>
    match g.members.findIdx? fun m => m.station == x with
    | some i => { g with circ := i }
    | none => g
  | .even =>
    match entryOf g x with
    | some m => setOffered (if m.offered then clearOffered g else g) x
    | none => g
  | .linear => g
  | .longestIdle => g
  | .weighted => g
  | .ringAll => g

/-! ## Ringing a group call (R35) -/

/-- Group call `c` of group `g` rings the chosen stations. -/
def ringGroupCall (s : State) (c : CallId) (g : GroupId) (chosen : List StationId) : State :=
  let s := leaveQueueIfQueued s c
  let s := chosen.foldl (fun s x => ringJoin s c .group x) s
  s.modCall c fun d => { d with state := .ringing, ringDl := afterOpt s.now (s.group g).cfg.noAnswer }

/-- The method selects for call `c` and the call rings; nothing happens when no member is available for it. -/
def selectAndRing (s : State) (c : CallId) (g : GroupId) : State :=
  match selectFor s g c with
  | some (xs, r) => ringGroupCall (s.modGroup g fun _ => r) c g xs
  | none => s

/-- The call's tried set is emptied when only tried members are available (R34, R41, R66); then the method selects and the call
rings. -/
def ringAvailable (s : State) (c : CallId) (g : GroupId) : State :=
  if anyAvailable s g c then selectAndRing s c g
  else selectAndRing (s.modCall c fun d => { d with tried := [] }) c g

end Sys2Proof.Machine
end

