-- ==== Sys2Proof/Machine/Hunt.lean ====
section
/-!
DEFINITION. Arrivals and redirects (R34, R60 to R62), recalls (R90, R91), the station arbiter (R21), the end of a call (R19), and
the advance of a group call (R43 to R47).
-/

namespace Sys2Proof.Machine

/-! ## Arrivals and redirects -/

/-- The night group that an arrival at `g` is passed on to (R34 step 2). -/
def nightTarget (s : State) (g : GroupId) : Option GroupId :=
  if (s.group g).service = .night then (s.group g).cfg.nightGroup else none

/-- No call in `g`'s queue other than `c` has a priority equal to or above the given one, and a member of `g` is available,
tried or untried (R34 step 3). -/
def canRing (s : State) (g : GroupId) (c : CallId) (priority : Priority) : Bool :=
  ((s.group g).queue.erase c).all (fun d => (s.call d).priority < priority) && anyFree s g

/-- The arrival of call `c` at `g` itself, under steps 3 to 5 of R34, would succeed. -/
def canPlace (s : State) (g : GroupId) (c : CallId) (priority : Priority) : Bool :=
  (s.group g).service != .unused && (s.group g).service != .closed && (canRing s g c priority || queueRoom s g c)

/-- The arrival of call `c` at `g` by redirect, with the given priority, would succeed (R34, R60). The first argument is how
many more redirects the call's redirect count allows: a hop past it fails. -/
def arrivalOk (s : State) (c : CallId) (priority : Priority) : Nat → GroupId → Bool
  | 0, g => canPlace s g c priority
  | hops + 1, g =>
    match nightTarget s g with
    | some n => arrivalOk s c priority hops n || canPlace s g c priority
    | none => canPlace s g c priority

/-- The hops a call with the given redirect count may still make (R60). -/
def hopsLeft (redirects : Nat) : Nat := Config.redirectLimit - redirects

/-- Call `c` is placed at group `g` itself: it belongs to the group from this tick, its overflow deadline is set (R56), and it
rings or joins the queue (R34). -/
def placeCall (s : State) (c : CallId) (g : GroupId) : State :=
  let rings := canRing s g c (s.call c).priority
  let s := s.modCall c fun d =>
    { d with kind := .group, current := some g, entryTick := s.now, overflowDl := afterOpt s.now (s.group g).cfg.overflowTicks }
  if rings then ringAvailable s c g else queueJoin s g c

/-- Steps 2 and 3 of R61 for a call that leaves group `g`: its deadlines are cleared, its redirect count rises by one, its
tried set is emptied and its round count is 0; then the notice. -/
def moveOut (s : State) (c : CallId) (g : GroupId) (event : CallRef → QueueEvent) : State :=
  let s := s.modCall c fun d =>
    { d with ringDl := none, overflowDl := none, redirects := d.redirects + 1, tried := [], round := 0 }
  queueNotice s g (event (callRef s c))

/-- A redirect of call `c` from group `g` to `d` fails: the overflow deadline is cleared and the failure is reported (R62). -/
def redirectFails (s : State) (c : CallId) (g d : GroupId) (reason : RedirectFail) : State :=
  let s := s.modCall c fun e => { e with overflowDl := none }
  queueNotice s g (.redirectFailed (callRef s c) d reason)

/-- Call `c` arrives at `g` (R34); the first argument is how many more redirects its count allows. A NIGHT group passes it on to
its night group while that succeeds; otherwise it is placed at `g`. -/
def arrive : Nat → State → CallId → GroupId → State
  | 0, s, c, g =>
    match nightTarget s g with
    | some n => placeCall (redirectFails s c g n .limit) c g
    | none => placeCall s c g
  | hops + 1, s, c, g =>
    match nightTarget s g with
    | some n =>
      if arrivalOk s c (s.call c).priority hops n then
        arrive hops (moveOut s c g fun r => .nightRedirected r n) c n
      else placeCall (redirectFails s c g n .arrival) c g
    | none => placeCall s c g

/-- The two kinds of redirect that R60 to R62 make. -/
inductive RedirectKind where
  | overflow (cause : OverflowCause)
  | night

/-- The notice of a successful redirect. -/
def RedirectKind.event (k : RedirectKind) (d : GroupId) (r : CallRef) : QueueEvent :=
  match k with
  | .overflow cause => .overflowed r d cause
  | .night => .nightRedirected r d

/-- Why a redirect of call `c` to `d` would fail, or none (R60). -/
def redirectTest (s : State) (c : CallId) (d : GroupId) : Option RedirectFail :=
  if Config.redirectLimit ≤ (s.call c).redirects then some .limit
  else if arrivalOk s c (s.call c).priority (hopsLeft ((s.call c).redirects + 1)) d then none
  else some .arrival

/-- A redirect of call `c` from group `g` to `d`, with whether it succeeded (R60 to R62). -/
def redirect (s : State) (c : CallId) (g d : GroupId) (kind : RedirectKind) : State × Bool :=
  match redirectTest s c d with
  | some reason => (redirectFails s c g d reason, false)
  | none =>
    let hops := hopsLeft ((s.call c).redirects + 1)
    let s := leaveQueueIfQueued s c
    (arrive hops (moveOut s c g (kind.event d)) c d, true)

/-! ## Orbits and park announcements -/

/-- Orbit `o` is released to the tail of the free order, and its call leaves it (R86). -/
def releaseOrbit (s : State) (o : OrbitId) (c : CallId) : State :=
  let s := s.modOrbit o fun r => Orbit.freed r.gen
  let s := { s with ppu := { s.ppu with freeOrder := s.ppu.freeOrder ++ [o] } }
  s.modCall c fun d => { d with orbit := none, parker := none, recallPending := false }

/-- Call `c` leaves the orbit it holds, if any. -/
def leaveOrbit (s : State) (c : CallId) : State :=
  match (s.call c).orbit with
  | some o => releaseOrbit s o c
  | none => s

/-- The announcement page of call `c`, if present, ends with cause WITHDRAWN (R94). -/
def withdrawAnnouncement (s : State) (c : CallId) : State :=
  match (s.call c).annPage with
  | some (p, gen) => withdrawPage (s.modCall c fun d => { d with annPage := none }) p gen
  | none => s

/-- The ring deadline of a direct call or a recall: the class's coverage ticks, when the station has a coverage group
(R17, R90). -/
def coverageDl (s : State) (x : StationId) : Option Tick :=
  if (s.station x).cfg.coverage.isSome then afterOpt s.now (s.classOf x).coverageTicks else none

/-- Parked call `c` in orbit `o` starts to ring its parker (R90). -/
def startRecall (s : State) (o : OrbitId) (c : CallId) (x : StationId) : State :=
  let s := s.modOrbit o fun r => { r with recallDl := none }
  let s := s.modCall c fun d => { d with recallPending := false }
  let s := withdrawAnnouncement s c
  let s := ringJoin s c .recall x
  s.modCall c fun d => { d with state := .recalling, ringDl := coverageDl s x }

/-! ## The station arbiter (R21) -/

/-- Case 1: the lowest-numbered orbit whose PARKED call waits for station `x`. -/
def pendingRecall (s : State) (x : StationId) : Option (OrbitId × CallId) :=
  (List.finRange 32).findSome? fun o =>
    match (s.orbit o).call with
    | some c =>
      if (s.call c).state = .parked ∧ (s.call c).recallPending ∧ (s.call c).parker = some x then some (o, c) else none
    | none => none

/-- Group `g` hands calls to station `x`: it is IN SERVICE and the station's entry in it is logged in. -/
def serves (s : State) (x : StationId) (g : GroupId) : Bool :=
  (s.group g).service == .inService && (match entryOf (s.group g) x with
    | some m => m.loggedIn
    | none => false)

/-- Case 2: the RINGING call of a RING ALL group of station `x` with the earliest offer tick, then the lowest call id. -/
def ringAllChoice (s : State) (x : StationId) : Option CallId :=
  firstBy (fun c d => earlier s.now (s.call c).offerTick (s.call d).offerTick) <|
    allWhere fun c =>
      (s.call c).state == .ringing && (s.call c).kind == .group && !(s.call c).tried.contains x &&
        match (s.call c).current with
        | some g => (s.station x).memberships.contains g && (s.group g).cfg.method == .ringAll && serves s x g
        | none => false

/-- Case 3: the candidate of each group of station `x`, and of those the highest priority, then the earliest offer tick, then
the earliest group in the membership list. -/
def queuedChoice (s : State) (x : StationId) : Option (GroupId × CallId) :=
  firstBy (fun a b =>
      if (s.call a.2).priority = (s.call b.2).priority then
        earlier s.now (s.call a.2).offerTick (s.call b.2).offerTick
      else (s.call b.2).priority < (s.call a.2).priority) <|
    (s.station x).memberships.filterMap fun g =>
      if serves s x g then
        ((s.group g).queue.find? fun c => !(s.call c).tried.contains x).map fun c => (g, c)
      else none

/-- Station `x` is offered to the station arbiter. -/
def offer (s : State) (x : StationId) : State :=
  if (s.station x).available then
    match pendingRecall s x with
    | some (o, c) => startRecall s o c x
    | none =>
      match ringAllChoice s x with
      | some c => ringJoin s c .group x
      | none =>
        match queuedChoice s x with
        | some (g, c) => ringGroupCall (s.modGroup g fun r => arbiterBookkeeping r x) c g [x]
        | none => s
  else s

/-- Stations are offered one by one, in the list's order. -/
def offerAll (s : State) (xs : List StationId) : State := xs.foldl offer s

/-! ## The end of a call (R19) -/

/-- Where the answering station of a freed call goes. -/
inductive Release where
  | wrapup (ticks : Nat)
  | idle
  | out

/-- The answering station goes where the freeing rule names; a wrap-up of 0 ticks is IDLE (R10). -/
def releaseStation (s : State) (x : StationId) : Release → State
  | .wrapup n =>
    if n = 0 then enterIdle s x
    else s.modStation x fun t => { t with state := .wrapup, call := none, wrapupDl := some (after s.now n) }
  | .idle => enterIdle s x
  | .out => s.modStation x fun t => { t with state := .out, call := none, wrapupDl := none }

/-- Call `c` is freed, in the steps of R19. -/
def freeCall (s : State) (c : CallId) (next : Release) : State :=
  let rings := (s.call c).ringing
  let s := ringLeaveAll s c rings
  let s := leaveQueueIfQueued s c
  let s := leaveOrbit s c
  let s := withdrawAnnouncement s c
  let answering := (s.call c).answering
  let s :=
    match answering with
    | some x => releaseStation s x next
    | none => s
  let s := leaveRingLists s c
  let s := s.modCall c fun d => Call.freed d.gen
  offerAll s (match answering with
    | some x => insertAsc x rings
    | none => rings)

/-- The part frees a call it cannot place, with a CALL REFUSED directive. -/
def refuseCall (s : State) (c : CallId) (cause : RefuseCause) : State :=
  let r := s.call c
  queueReport (freeCall s c .idle) (.callRefused c r.gen cause r.hostRef)

/-! ## The advance of a group call (R43 to R47) -/

/-- The overflow deadline has passed: it is present, and as many ticks have elapsed since the call entered the group as its
length (R57). -/
def overflowPassed (now : Tick) (d : Call) : Bool :=
  match d.overflowDl with
  | some dl => elapsed dl d.entryTick ≤ elapsed now d.entryTick
  | none => false

/-- Step 3 of R58 for a call whose other tests found nothing: it joins the queue when there is room, and overflows otherwise,
unless an overflow attempt has just failed (R45). -/
def rejoinQueue (s : State) (c : CallId) (g : GroupId) (attempted : Bool) : State :=
  if queueRoom s g c then queueJoin s g c
  else
    match (if attempted then none else (s.group g).cfg.overflowGroup) with
    | some d =>
      let (t, ok) := redirect s c g d (.overflow .queueFull)
      if ok then t else refuseCall t c .noStation
    | none => refuseCall s c .noStation

/-- Step 2 of R58: in NIGHT the call is sent on to the night group. -/
def returnByNight (s : State) (c : CallId) (g : GroupId) (attempted : Bool) : State :=
  match nightTarget s g with
  | some n =>
    let (t, ok) := redirect s c g n .night
    if ok then t else rejoinQueue t c g attempted
  | none => rejoinQueue s c g attempted

/-- Call `c` of group `g` returns to the queue (R45, R58). -/
def returnToQueue (s : State) (c : CallId) (g : GroupId) : State :=
  let s := s.modCall c fun d => { d with ringDl := none, tried := [] }
  if overflowPassed s.now (s.call c) then
    match (s.group g).cfg.overflowGroup with
    | some d =>
      let (t, ok) := redirect s c g d (.overflow .deadline)
      if ok then t else returnByNight t c g true
    | none => returnByNight (s.modCall c fun d => { d with overflowDl := none }) c g false
  else returnByNight s c g false

/-- A new round of call `c` in group `g` (R44). -/
def newRound (s : State) (c : CallId) (g : GroupId) : State :=
  let s := s.modCall c fun d => { d with tried := [], round := min 15 (d.round + 1) }
  let limit := (s.group g).cfg.roundLimit
  match (if limit ≠ 0 ∧ limit ≤ (s.call c).round then (s.group g).cfg.overflowGroup else none) with
  | some d =>
    let (t, ok) := redirect s c g d (.overflow .roundLimit)
    if ok then t else selectAndRing t c g
  | none => selectAndRing s c g

/-- The advance of a call of group `g` whose ringing set is empty: steps 2 to 4 of R43 under a sequential method, R47 under
RING ALL. -/
def advance (s : State) (c : CallId) (g : GroupId) : State :=
  if anyAvailable s g c then selectAndRing s c g
  else if anyFree s g then
    if (s.group g).cfg.method = .ringAll then ringAvailable s c g else newRound s c g
  else returnToQueue s c g

/-- A leave without tried: the call is advanced when no station rings for it any more (R47). -/
def leaveWithoutTried (s : State) (c : CallId) (g : GroupId) : State :=
  if (s.call c).ringing = [] then advance (s.modCall c fun d => { d with ringDl := none }) c g else s

/-! ## The coverage step and the coverage recall (R18, R91) -/

/-- Steps 3 to 6 of R18 for direct call `c` that left station `x`, toward coverage group `g`. The COVERED notice is queued before
the arrival and gives the queue's length as it then stands (assumption 35). -/
def coverTo (s : State) (c : CallId) (x : StationId) (g : GroupId) : State :=
  let s := s.modCall c fun d =>
    { d with kind := .group, home := some g, current := some g, entryTick := s.now, redirects := 1, round := 0, tried := [x],
             ringDl := none }
  if arrivalOk s c (s.call c).priority (hopsLeft 1) g then
    arrive (hopsLeft 1) (queueNotice s g (.covered (callRef s c) .direct)) c g
  else refuseCall s c .coverageFailed

/-- The coverage step at the expiry of a direct call's ring deadline (R18). -/
def coverageStep (s : State) (c : CallId) (x : StationId) : State :=
  match (s.station x).cfg.coverage with
  | none => s.modCall c fun d => { d with ringDl := none }
  | some g => offer (coverTo (ringLeave s c .idle x) c x g) x

/-- The coverage group a recall of call `c` by parker `x` may go to, when R91's test passes. -/
def coverageRecallGroup (s : State) (c : CallId) (x : StationId) : Option GroupId :=
  match (s.station x).cfg.coverage with
  | none => none
  | some g =>
    if (s.call c).redirects < Config.redirectLimit ∧ arrivalOk s c 3 (hopsLeft ((s.call c).redirects + 1)) g then some g
    else none

/-- The steps of a coverage recall that succeeds (R91). The COVERED notice is queued before the arrival and gives the queue's
length as it then stands (assumption 35). -/
def coverageRecallTo (s : State) (o : OrbitId) (c : CallId) (x : StationId) (g : GroupId) : State :=
  let rang := (s.call c).ringing.contains x
  let s := if rang then ringLeave s c .idle x else s
  let s := withdrawAnnouncement s c
  let s := releaseOrbit s o c
  let s := s.modCall c fun d =>
    { d with kind := .group, priority := 3, redirects := d.redirects + 1, round := 0, tried := [x], ringDl := none,
             current := some g, home := some (d.home.getD g), entryTick := s.now }
  let s := queueNotice s g (.covered (callRef s c) .recall)
  let s := arrive (hopsLeft (s.call c).redirects) s c g
  if rang then offer s x else s

/-- A recall whose parker is not available: a coverage recall, or the call waits for its parker (R90). -/
def recallNotIdle (s : State) (o : OrbitId) (c : CallId) (x : StationId) : State :=
  match coverageRecallGroup s c x with
  | some g => coverageRecallTo s o c x g
  | none => s.modCall c fun d => { d with recallPending := true }

end Sys2Proof.Machine
end

