-- ==== Sys2Proof/Machine/Stations.lean ====
section
/-!
DEFINITION. The Station and Call Table's commands: STATION SET, the six station events, CALL OFFER, CALL GONE, and the expiries
of wrap-up, ring and overflow deadlines (chapters 1 and 2, R57).
-/

namespace Sys2Proof.Machine

/-! ## STATION SET (R15) -/

/-- The fields of a STATION SET body, when all are in range. -/
def readStationCfg (cls pickup coverage service : Byte) (label : Half) : Option StationCfg :=
  match readFin 4 cls.toNat, readOpt 48 pickup, readOpt 64 coverage, readService service with
  | some k, some p, some g, some v => some { cls := k, pickup := p, coverage := g, startService := v, label := label }
  | _, _, _, _ => none

/-- A RINGING station's call moves from the ring list of the old pickup group to that of the new one (R15, R77). -/
def moveRing (s : State) (x : StationId) (old new : Option PickupId) : State :=
  match (s.station x).state, (s.station x).call with
  | .ringing, some c =>
    if old = new then s
    else
      let s := match old with
        | some p => leaveRingList s c p
        | none => s
      match new with
      | some p => enterRingList s c p
      | none => s
  | _, _ => s

/-- The configured fields of station `x` are written. -/
def storeStation (s : State) (x : StationId) (v : StationCfg) : State :=
  moveRing (s.modStation x fun t => { t with cfg := v }) x (s.station x).cfg.pickup v.pickup

def stationSetOwner (station : Half) (cls pickup coverage service : Byte) (label : Half) (s : State) : Answer :=
  match readStation station, readStationCfg cls pickup coverage service label with
  | some x, some v => if s.isSaving then .refuse .storeBusy else .ok (storeStation s x v) []
  | _, _ => .refuse .badValue

/-- STATION SET. -/
def execStationSet (h : Header) (station : Half) (cls pickup coverage service : Byte) (label : Half) (s : State) : Result :=
  .next (request s 0x01 [8] h (stationSetOwner station cls pickup coverage service label))

/-! ## Answers (R8) -/

/-- Station `x` answers its current call `c`. -/
def answerCall (s : State) (c : CallId) (x : StationId) : State :=
  let others := (s.call c).ringing.erase x
  let s := ringLeaveAll s c others
  let recalling := (s.call c).state = .recalling
  let s := s.modCall c fun d =>
    { d with ringing := [], tried := [], state := .connected, answering := some x, ringDl := none, overflowDl := none }
  let s := s.modStation x fun t => { t with state := .talking, call := some c }
  let s := leaveRingLists s c
  let s := if recalling then leaveOrbit s c else s
  let s := queueReport s (.connect c (s.call c).gen x (s.station x).cfg.label (s.call c).hostRef)
  offerAll s others

/-! ## Station events (R6) -/

/-- What a station event leaves, and the call that an answering OFF HOOK answered. -/
structure EventDone where
  state : State
  answered : Option CallId

/-- A STATION EVENT (R6): the range and run-mode checks, then the rule of the event. -/
def stationEventOwner (station : Half) (event : Byte) (act : State → StationId → Except Code EventDone) (s : State) :
    Answer :=
  match readStation station, readFin 6 event.toNat with
  | some x, some _ =>
    if ¬ s.running then .refuse .notRunning
    else
      match act s x with
      | .error c => .refuse c
      | .ok r =>
        let t := r.state.station x
        .ok r.state ([t.state.code] ++ encOpt t.call ++ encRef (r.answered.map fun c => (c, (r.state.call c).gen)))
  | _, _ => .refuse .badValue

/-- OFF HOOK (R7). -/
def offHookAct (s : State) (x : StationId) : Except Code EventDone :=
  match (s.station x).state, (s.station x).call with
  | .ringing, some c => .ok { state := answerCall s c x, answered := some c }
  | .idle, _ => .ok { state := s.modStation x fun t => { t with state := .busy }, answered := none }
  | .wrapup, _ => .ok { state := s.modStation x fun t => { t with state := .busy, wrapupDl := none }, answered := none }
  | _, _ => .error .wrongState

/-- OFF HOOK. -/
def execOffHook (h : Header) (station : Half) (event : Byte) (s : State) : Result :=
  .next (request s 0x30 [3] h (stationEventOwner station event offHookAct))

/-- The wrap-up of a freed call's answering station: the wrap-up ticks of a GROUP call's current group, none for a DIRECT call
(R10). -/
def wrapupOf (s : State) (c : CallId) : Release :=
  match (s.call c).kind, (s.call c).current with
  | .group, some g => .wrapup (s.group g).cfg.wrapup
  | _, _ => .idle

/-- The voice page of a station, if it has one, ends with cause RELEASED. -/
def endVoicePage (s : State) (x : StationId) : State :=
  match (s.station x).voicePage with
  | some p => endPage s p .released
  | none => s

/-- ON HOOK (R10). -/
def onHookAct (s : State) (x : StationId) : Except Code EventDone :=
  match (s.station x).state, (s.station x).call with
  | .talking, some c => .ok { state := freeCall s c (wrapupOf s c), answered := none }
  | .busy, _ => .ok { state := offer (endVoicePage (enterIdle s x) x) x, answered := none }
  | _, _ => .error .wrongState

/-- ON HOOK. -/
def execOnHook (h : Header) (station : Half) (event : Byte) (s : State) : Result :=
  .next (request s 0x30 [3] h (stationEventOwner station event onHookAct))

/-- The station goes OUT. -/
def goOut (s : State) (x : StationId) : State :=
  s.modStation x fun t => { t with state := .out, call := none, wrapupDl := none }

/-- SERVICE OFF of a station RINGING for call `c`: it leaves once, with one STOP RING, and goes OUT at that leave; then its call
is handed on (R12, R18, R93). -/
def serviceOffRinging (s : State) (x : StationId) (c : CallId) : State :=
  let d := s.call c
  let s := ringLeave s c .out x
  match d.state, d.orbit, d.kind, d.current with
  | .recalling, some o, _, _ => recallNotIdle (s.modCall c fun d => { d with state := .parked, ringDl := none }) o c x
  | _, _, .group, some g => leaveWithoutTried s c g
  | _, _, _, _ =>
    match (s.station x).cfg.coverage with
    | some g => coverTo s c x g
    | none => refuseCall s c .noStation

/-- SERVICE OFF (R12). -/
def serviceOffAct (s : State) (x : StationId) : Except Code EventDone :=
  match (s.station x).state, (s.station x).call with
  | .out, _ => .error .wrongState
  | .ringing, some c => .ok { state := goOut (serviceOffRinging s x c) x, answered := none }
  | .talking, some c => .ok { state := goOut (freeCall s c .out) x, answered := none }
  | .busy, _ => .ok { state := goOut (endVoicePage s x) x, answered := none }
  | _, _ => .ok { state := goOut s x, answered := none }

/-- SERVICE OFF. -/
def execServiceOff (h : Header) (station : Half) (event : Byte) (s : State) : Result :=
  .next (request s 0x30 [3] h (stationEventOwner station event serviceOffAct))

/-- SERVICE ON (R13). -/
def serviceOnAct (s : State) (x : StationId) : Except Code EventDone :=
  if (s.station x).state = .out then .ok { state := offer (enterIdle s x) x, answered := none } else .error .wrongState

/-- SERVICE ON. -/
def execServiceOn (h : Header) (station : Half) (event : Byte) (s : State) : Result :=
  .next (request s 0x30 [3] h (stationEventOwner station event serviceOnAct))

/-- DND ON (R14). -/
def dndOnAct (s : State) (x : StationId) : Except Code EventDone :=
  .ok { state := s.modStation x fun t => { t with dnd := true }, answered := none }

/-- DND ON. -/
def execDndOn (h : Header) (station : Half) (event : Byte) (s : State) : Result :=
  .next (request s 0x30 [3] h (stationEventOwner station event dndOnAct))

/-- DND OFF (R14): an IDLE station whose flag goes off becomes available and is offered. -/
def dndOffAct (s : State) (x : StationId) : Except Code EventDone :=
  if (s.station x).dnd then .ok { state := offer (s.modStation x fun t => { t with dnd := false }) x, answered := none }
  else .ok { state := s, answered := none }

/-- DND OFF. -/
def execDndOff (h : Header) (station : Half) (event : Byte) (s : State) : Result :=
  .next (request s 0x30 [3] h (stationEventOwner station event dndOffAct))

/-! ## CALL OFFER (R16, R17) -/

/-- The target of a CALL OFFER. -/
inductive Target where
  | group (g : GroupId)
  | direct (x : StationId)
deriving DecidableEq, Repr

/-- The kind and target of a CALL OFFER: a station for DIRECT, a group in the low byte for GROUP (11.2). -/
def readTarget (kind : Byte) (target : Half) : Option Target :=
  match kind.toNat with
  | 0 => (readFin 64 (target.toNat % 256)).map .group
  | 1 => (readStation target).map .direct
  | _ => none

/-- The lowest-numbered FREE call record. -/
def freeCallRecord (s : State) : Option CallId := lowestWhere fun c => (s.call c).state == .free

/-- The record of a new call (R16): its generation steps. -/
def takeRecord (s : State) (c : CallId) (kind : CallKind) (group : Option GroupId) (priority : Priority) (ref : Half) :
    State :=
  s.modCall c fun d =>
    { Call.freed (nextGen d.gen) with
      hostRef := ref, kind := kind, priority := priority, offerTick := s.now, entryTick := s.now, home := group,
      current := group }

/-- A direct call rings its station (R17). -/
def ringDirect (s : State) (c : CallId) (x : StationId) : State :=
  (ringJoin s c .direct x).modCall c fun d => { d with state := .ringing, ringDl := coverageDl s x }

/-- The reply fields of an accepted offer. -/
def offerFields (s : State) (c : CallId) : List Byte := enc8 c.val ++ [(s.call c).gen, (s.call c).state.code]

def callOfferOwner (kind : Byte) (target : Half) (priority : Byte) (hostRef : Half) (s : State) : Answer :=
  if ¬ s.running then .refuse .notRunning
  else
    match readTarget kind target, readFin 4 priority.toNat with
    | some (.group g), some pr =>
      if (s.group g).service = .unused then .refuse .badValue
      else if (s.group g).service = .closed then .refuse .closed
      else
        match freeCallRecord s with
        | none => .refuse .noResource
        | some c =>
          if arrivalOk s c pr (hopsLeft 0) g then
            let t := arrive (hopsLeft 0) (takeRecord s c .group (some g) pr hostRef) c g
            .ok t (offerFields t c)
          else .refuse .targetBusy
    | some (.direct x), some pr =>
      if ¬ (s.station x).available then .refuse .targetBusy
      else
        match freeCallRecord s with
        | none => .refuse .noResource
        | some c =>
          let t := ringDirect (takeRecord s c .direct none pr hostRef) c x
          .ok t (offerFields t c)
    | _, _ => .refuse .badValue

/-- CALL OFFER. -/
def execCallOffer (h : Header) (kind : Byte) (target : Half) (priority : Byte) (hostRef : Half) (s : State) : Result :=
  .next (request s 0x31 [6] h (callOfferOwner kind target priority hostRef))

/-! ## CALL GONE (R20) -/

def callGoneOwner (call generation : Byte) (s : State) : Answer :=
  if ¬ s.running then .refuse .notRunning
  else
    match readFin 192 call.toNat with
    | none => .refuse .badValue
    | some c =>
      if staleGen generation (s.call c).gen then .refuse .stale
      else if (s.call c).state = .free then .refuse .wrongState
      else .ok (freeCall s c .idle) [(s.call c).state.code]

/-- CALL GONE. -/
def execCallGone (h : Header) (call generation : Byte) (s : State) : Result :=
  .next (request s 0x32 [2] h (callGoneOwner call generation))

/-! ## Expiries -/

/-- WRAPUP EXPIRY (R11). A deadline that is not due expires nothing (R1). -/
def execWrapupExpiry (x : StationId) (s : State) : Result :=
  .next <|
    if (s.station x).state = .wrapup ∧ due s.now (s.station x).wrapupDl then finish (offer (enterIdle s x) x) else s

/-- COVERAGE EXPIRY: the ring deadline of a RINGING DIRECT call (R18). -/
def execCoverageExpiry (c : CallId) (s : State) : Result :=
  .next <|
    if (s.call c).state = .ringing ∧ (s.call c).kind = .direct ∧ due s.now (s.call c).ringDl then
      match (s.call c).ringing with
      | x :: _ => finish (coverageStep s c x)
      | [] => s
    else s

/-- The group whose RINGING call `c` is, when its ring deadline is due. -/
def ringDueGroup (s : State) (c : CallId) : Option GroupId :=
  if (s.call c).state = .ringing ∧ (s.call c).kind = .group ∧ due s.now (s.call c).ringDl then (s.call c).current else none

/-- The expiry of a sequential call's ring deadline (R43). -/
def noAnswer (s : State) (c : CallId) (g : GroupId) : State :=
  let rang := (s.call c).ringing
  let s := s.modCall c fun d => { d with ringDl := none, tried := rang.foldl (fun l x => insertAsc x l) d.tried }
  let s := ringLeaveAll s c rang
  offerAll (advance s c g) rang

/-- NO ANSWER EXPIRY: under the sequential method the call's group has now (R26, R43). -/
def execNoAnswerExpiry (c : CallId) (s : State) : Result :=
  .next <|
    match ringDueGroup s c with
    | some g => if (s.group g).cfg.method = .ringAll then s else finish (noAnswer s c g)
    | none => s

/-- The expiry of a RING ALL call's ring deadline (R46). -/
def ringAllNoAnswer (s : State) (c : CallId) (g : GroupId) : State :=
  let s := s.modCall c fun d => { d with ringDl := none }
  match (s.group g).cfg.overflowGroup with
  | none => s
  | some d =>
    match redirectTest s c d with
    | some reason => redirectFails s c g d reason
    | none =>
      let rang := (s.call c).ringing
      offerAll (redirect (ringLeaveAll s c rang) c g d (.overflow .ringAll)).1 rang

/-- RING ALL EXPIRY. -/
def execRingAllExpiry (c : CallId) (s : State) : Result :=
  .next <|
    match ringDueGroup s c with
    | some g => if (s.group g).cfg.method = .ringAll then finish (ringAllNoAnswer s c g) else s
    | none => s

/-- The expiry of an overflow deadline (R57): a QUEUED call is redirected, or keeps its place with the deadline cleared. -/
def overflowQueued (s : State) (c : CallId) (g : GroupId) : State :=
  match (s.group g).cfg.overflowGroup with
  | some d => (redirect s c g d (.overflow .deadline)).1
  | none => s.modCall c fun d => { d with overflowDl := none }

/-- OVERFLOW EXPIRY (R57). In RINGING nothing is done and the deadline stays, passed. -/
def execOverflowExpiry (c : CallId) (s : State) : Result :=
  .next <|
    match (s.call c).state, (s.call c).current with
    | .queued, some g => if due s.now (s.call c).overflowDl then finish (overflowQueued s c g) else s
    | _, _ => s

end Sys2Proof.Machine
end

