-- ==== Sys2Proof/Machine/Pickup.lean ====
section
/-!
DEFINITION. The Pickup and Park Unit (chapter 4): its configuration requests, the three pickups, park, retrieve and recall, and
its queries.
-/

namespace Sys2Proof.Machine

/-! ## PICKUP GROUP SET (R78) -/

/-- The link bytes past the count are 0xFF (11.2). -/
def readLinks (count l0 l1 l2 : Byte) : Option (List PickupId) :=
  match count.toNat with
  | 0 => if l0 = 0xFF ∧ l1 = 0xFF ∧ l2 = 0xFF then some [] else none
  | 1 => if l1 = 0xFF ∧ l2 = 0xFF then (readFin 48 l0.toNat).map fun a => [a] else none
  | 2 =>
    match readFin 48 l0.toNat, readFin 48 l1.toNat with
    | some a, some b => if l2 = 0xFF then some [a, b] else none
    | _, _ => none
  | 3 =>
    match readFin 48 l0.toNat, readFin 48 l1.toNat, readFin 48 l2.toNat with
    | some a, some b, some c => some [a, b, c]
    | _, _, _ => none
  | _ => none

/-- No group appears twice in a list of links. -/
def noRepeat : List PickupId → Bool
  | [] => true
  | p :: ps => !ps.contains p && noRepeat ps

def pickupGroupSetOwner (group count l0 l1 l2 : Byte) (s : State) : Answer :=
  match readFin 48 group.toNat, readLinks count l0 l1 l2 with
  | some p, some ls =>
    if ls.contains p ∨ ¬ noRepeat ls then .refuse .badValue
    else if s.isSaving then .refuse .storeBusy
    else .ok (s.modPickup p fun r => { r with links := ls }) []
  | _, _ => .refuse .badValue

/-- PICKUP GROUP SET. -/
def execPickupGroupSet (h : Header) (group count l0 l1 l2 : Byte) (s : State) : Result :=
  .next (request s 0x07 [5] h (pickupGroupSetOwner group count l0 l1 l2))

/-! ## CLASS SET (R79) -/

/-- The fields of a CLASS SET body, when all are in range; capability bits 4 to 7 are 0 (R185). -/
def readClass (b : ClassSetBody) : Option ServiceClass :=
  match readRange 0 15 b.capabilities.toNat, readRange 0 60000 b.recallTicks.toNat, readRange 0 60000 b.coverageTicks.toNat,
    readPageCode b.directory b.entry with
  | some _, some r, some v, some a =>
    some { directed := b.capabilities.getLsbD 0, queuePickup := b.capabilities.getLsbD 1, park := b.capabilities.getLsbD 2,
           summon := b.capabilities.getLsbD 3, recallTicks := r, coverageTicks := v, announceCode := a }
  | _, _, _, _ => none

def classSetOwner (b : ClassSetBody) (s : State) : Answer :=
  match readFin 4 b.cls.toNat, readClass b with
  | some k, some v => if s.isSaving then .refuse .storeBusy else .ok (s.modClass k fun _ => v) []
  | _, _ => .refuse .badValue

/-- CLASS SET. -/
def execClassSet (h : Header) (b : ClassSetBody) (s : State) : Result := .next (request s 0x08 [8] h (classSetOwner b))

/-! ## Taking a call (R81) -/

/-- Call `c` is taken for station `x`, in the steps of R81. -/
def takeCall (s : State) (c : CallId) (x : StationId) : State :=
  let rang := (s.call c).ringing
  let s := leaveQueueIfQueued s c
  let s := ringLeaveAll s c rang
  let s := withdrawAnnouncement s c
  let s := leaveOrbit s c
  let s := endVoicePage s x
  let s := s.modCall c fun d =>
    { d with ringing := [], tried := [], state := .connected, answering := some x, ringDl := none, overflowDl := none }
  let s := s.modStation x fun t => { t with state := .talking, call := some c }
  let s := leaveRingLists s c
  let s := queueReport s (.connect c (s.call c).gen x (s.station x).cfg.label (s.call c).hostRef)
  offerAll s rang

/-- The checks that open every pickup, park and retrieve after their own range checks (R80): the requesting station is IDLE or
BUSY. -/
def mayTake (s : State) (x : StationId) : Bool := (s.station x).state == .idle || (s.station x).state == .busy

/-- A call with its generation, as a pickup reply names it. -/
def callFields (s : State) (c : CallId) : List Byte := enc8 c.val ++ [(s.call c).gen]

/-! ## GROUP PICKUP (R82) -/

/-- The pickup groups a group pickup of station `x` searches: its own, then the linked ones in their order. -/
def searchedGroups (s : State) (x : StationId) : List PickupId :=
  match (s.station x).cfg.pickup with
  | some p => p :: (s.pickup p).links
  | none => []

/-- The head of the first ring list that holds a call, with the list's group. -/
def firstRing (s : State) (ps : List PickupId) : Option (CallId × PickupId) :=
  ps.findSome? fun p => (s.pickup p).ring.head?.map fun e => (e.call, p)

/-- The first ring list searched that holds call `c`. -/
def ringOf (s : State) (ps : List PickupId) (c : CallId) : Option (CallId × PickupId) :=
  ps.findSome? fun p => if (s.pickup p).ring.any fun e => e.call == c then some (c, p) else none

/-- The call a GROUP PICKUP takes, or its refusal. -/
def groupPickupFind (s : State) (x : StationId) (call : Option CallId) (generation : Byte) :
    Except Code (CallId × PickupId) :=
  match call with
  | none =>
    match firstRing s (searchedGroups s x) with
    | some r => .ok r
    | none => .error .nothingToPickUp
  | some c =>
    if staleGen generation (s.call c).gen then .error .stale
    else if (s.call c).state ≠ .ringing ∧ (s.call c).state ≠ .recalling then .error .tooLate
    else
      match ringOf s (searchedGroups s x) c with
      | some r => .ok r
      | none => .error .nothingToPickUp

def groupPickupOwner (station : Half) (call generation : Byte) (s : State) : Answer :=
  if ¬ s.running then .refuse .notRunning
  else
    match readStation station, readOpt 192 call with
    | some x, some call =>
      if ¬ mayTake s x then .refuse .wrongState
      else
        match groupPickupFind s x call generation with
        | .error e => .refuse e
        | .ok (c, p) => .ok (takeCall s c x) (callFields s c ++ enc8 p.val ++ [(s.call c).state.code])
    | _, _ => .refuse .badValue

/-- GROUP PICKUP. -/
def execGroupPickup (h : Header) (station : Half) (call generation : Byte) (s : State) : Result :=
  .next (request s 0x35 [4] h (groupPickupOwner station call generation))

/-! ## DIRECTED PICKUP (R83) -/

def directedPickupOwner (station target : Half) (generation : Byte) (s : State) : Answer :=
  if ¬ s.running then .refuse .notRunning
  else
    match readStation station, readStation target with
    | some x, some t =>
      if ¬ mayTake s x then .refuse .wrongState
      else if ¬ (s.classOf x).directed then .refuse .denied
      else if staleGen generation (s.station t).ringGen then .refuse .stale
      else
        match (s.station t).state, (s.station t).call with
        | .ringing, some c => .ok (takeCall s c x) (callFields s c ++ [(s.call c).state.code])
        | _, _ => .refuse (if generation = 0 then .nothingToPickUp else .tooLate)
    | _, _ => .refuse .badValue

/-- DIRECTED PICKUP. -/
def execDirectedPickup (h : Header) (station target : Half) (generation : Byte) (s : State) : Result :=
  .next (request s 0x36 [5] h (directedPickupOwner station target generation))

/-! ## QUEUE PICKUP (R84) -/

def queuePickupOwner (station : Half) (group : Byte) (s : State) : Answer :=
  if ¬ s.running then .refuse .notRunning
  else
    match readStation station, readFin 64 group.toNat with
    | some x, some g =>
      if ¬ mayTake s x then .refuse .wrongState
      else if (s.group g).service = .unused then .refuse .badValue
      else if ¬ (s.classOf x).queuePickup then .refuse .denied
      else
        match (s.group g).queue with
        | [] => .refuse .nothingToPickUp
        | c :: _ => .ok (takeCall s c x) (callFields s c)
    | _, _ => .refuse .badValue

/-- QUEUE PICKUP. -/
def execQueuePickup (h : Header) (station : Half) (group : Byte) (s : State) : Result :=
  .next (request s 0x37 [3] h (queuePickupOwner station group))

/-! ## PARK (R87, R88) -/

/-- The orbit a PARK takes: the named one when it is FREE, or the head of the free order; otherwise the refusal. -/
def parkOrbit (s : State) (orbit : Option OrbitId) : Except Code OrbitId :=
  match orbit with
  | some o => if (s.orbit o).state = .held then .error .orbitBusy else .ok o
  | none =>
    match s.ppu.freeOrder with
    | o :: _ => .ok o
    | [] => .error .noResource

/-- Call `c`, on which station `x` talks, goes into orbit `o` (R86, R87). -/
def parkCall (s : State) (x : StationId) (c : CallId) (o : OrbitId) : State :=
  let s := { s with ppu := { s.ppu with freeOrder := s.ppu.freeOrder.erase o } }
  let s := s.modOrbit o fun r =>
    { state := .held, call := some c, gen := nextGen r.gen, parker := some x,
      recallDl := afterOpt s.now (s.classOf x).recallTicks }
  let s := s.modCall c fun d =>
    { d with state := .parked, answering := none, orbit := some o, parker := some x, recallPending := false,
             overflowDl := none }
  s.modStation x fun t => { t with state := .busy, call := none }

/-- The page of a park announcement (R88, R105): a PROMPT page whose prompt number is the orbit's. -/
def parkPageRequest (c : CallId) (o : OrbitId) (gen : Byte) (r : Resolved) : PageRequest :=
  { kind := .prompt, origin := .parkAnnouncement c o gen, priority := r.code.priority, zones := r.zones,
    source := .prompt (BitVec.ofNat 8 o.val), preludeChannel := r.code.preludeChannel, preludeTone := r.code.preludeTone,
    preludeTicks := r.code.preludeTicks, maxDuration := r.code.maxDuration, waitTicks := r.code.waitTicks,
    codeEntry := some r.entry, chain := r.chain }

/-- The start attempt of a park announcement: the code the PARK gives, or the default announce code of the parker's class. -/
def parkAttempt (s : State) (x : StationId) (c : CallId) (o : OrbitId) (code : Option (DirectoryId × EntryId)) :
    Except Code Started :=
  match code.or (s.classOf x).announceCode with
  | none => .error .noSuchCode
  | some (d, i) =>
    match resolveCode s d i.val (.cls (s.station x).cfg.cls) with
    | .error e => .error e
    | .ok r => startAttempt s (parkPageRequest c o (s.orbit o).gen r)

/-- The park announcement of call `c` in orbit `o` (R88), with what it came to. -/
def announcePark (s : State) (x : StationId) (c : CallId) (o : OrbitId) (code : Option (DirectoryId × EntryId)) :
    State × TriggerResult :=
  match parkAttempt s x c o code with
  | .error e => (s, .error e)
  | .ok r =>
    let ref := (r.page, (r.state.page r.page).gen)
    (r.state.modCall c fun d => { d with annPage := some ref }, .ok ref)

/-- The announce field of a PARK reply when no announcement was asked for (R187). -/
def noAnnounceField : List Byte := absent8 :: encRef (none : Option (PageId × Byte))

def parkOwner (station : Half) (orbit announce directory entry : Byte) (s : State) : Answer :=
  if ¬ s.running then .refuse .notRunning
  else
    match readStation station, readOpt 32 orbit, readFlag announce, readPageCode directory entry with
    | some x, some orbit, some announce, some code =>
      match (s.station x).state, (s.station x).call with
      | .talking, some c =>
        if ¬ (s.classOf x).park then .refuse .denied
        else
          match parkOrbit s orbit with
          | .error e => .refuse e
          | .ok o =>
            let t := parkCall s x c o
            let fields := enc8 o.val ++ [(t.orbit o).gen] ++ callFields t c
            if announce then
              let (u, r) := announcePark t x c o code
              .ok u (fields ++ announceField r)
            else .ok t (fields ++ noAnnounceField)
      | _, _ => .refuse .wrongState
    | _, _, _, _ => .refuse .badValue

/-- PARK. -/
def execPark (h : Header) (station : Half) (orbit announce directory entry : Byte) (s : State) : Result :=
  .next (request s 0x38 [6] h (parkOwner station orbit announce directory entry))

/-! ## RETRIEVE (R89) -/

def retrieveOwner (station : Half) (orbit generation : Byte) (s : State) : Answer :=
  if ¬ s.running then .refuse .notRunning
  else
    match readStation station, readFin 32 orbit.toNat with
    | some x, some o =>
      if ¬ mayTake s x then .refuse .wrongState
      else
        match (s.orbit o).state, (s.orbit o).call with
        | .held, some c =>
          if staleGen generation (s.orbit o).gen then .refuse .stale else .ok (takeCall s c x) (callFields s c)
        | _, _ => .refuse .orbitEmpty
    | _, _ => .refuse .badValue

/-- RETRIEVE. -/
def execRetrieve (h : Header) (station : Half) (orbit generation : Byte) (s : State) : Result :=
  .next (request s 0x39 [4] h (retrieveOwner station orbit generation))

/-! ## Expiries (R90, R93) -/

/-- The recall deadline of HELD orbit `o` expires: the recall starts when the parker is available; otherwise a coverage recall
is attempted, and failing that the call waits for its parker (R90). -/
def recallExpires (s : State) (o : OrbitId) (c : CallId) (x : StationId) : State :=
  let s := s.modOrbit o fun r => { r with recallDl := none }
  if (s.station x).available then startRecall s o c x else recallNotIdle s o c x

/-- RECALL EXPIRY. A deadline that is not due expires nothing (R1). -/
def execRecallExpiry (o : OrbitId) (s : State) : Result :=
  .next <|
    match (s.orbit o).state, (s.orbit o).call, (s.orbit o).parker with
    | .held, some c, some x => if due s.now (s.orbit o).recallDl then finish (recallExpires s o c x) else s
    | _, _, _ => s

/-- The ring deadline of a RECALLING call expires (R93). -/
def recallRingExpires (s : State) (o : OrbitId) (c : CallId) (x : StationId) : State :=
  match coverageRecallGroup s c x with
  | some g => coverageRecallTo s o c x g
  | none => s.modCall c fun d => { d with ringDl := none }

/-- RECALL RING EXPIRY. -/
def execRecallRingExpiry (c : CallId) (s : State) : Result :=
  .next <|
    match (s.call c).state, (s.call c).orbit, (s.call c).parker with
    | .recalling, some o, some x => if due s.now (s.call c).ringDl then finish (recallRingExpires s o c x) else s
    | _, _, _ => s

/-! ## Queries (R96) -/

/-- One ring list entry: call id, call generation, ring start tick, list of ringing stations (R187). An entry too long for one
part is cut between its stations (assumption 12). -/
def encRingEntry (s : State) (p : PickupId) (e : RingEntry) : List (List Byte) :=
  let xs := (s.call e.call).ringing.filter fun x => (s.station x).cfg.pickup == some p
  let head := enc8 e.call.val ++ [(s.call e.call).gen] ++ encTick e.start ++ enc16 xs.length
  let tail := xs.map fun x => enc16 x.val
  if head.length + 2 * xs.length ≤ Config.partSize then [head ++ tail.flatten] else head :: tail

/-- The fields of a PICKUP GROUP QUERY reply: the linked groups, then the ring list. -/
def pickupGroupFields (s : State) (p : PickupId) : List (List Byte) :=
  encList (fun q : PickupId => enc8 q.val) (s.pickup p).links ++
    enc8 (s.pickup p).ring.length :: ((s.pickup p).ring.map (encRingEntry s p)).flatten

/-- The part number of a long query: the byte after the record number, 0 when it was omitted (R186). -/
def partNumber (h : Header) (part : Byte) : Nat := if h.length = 2 then part.toNat else 0

/-- A long query's reply: one part of its fields, BAD VALUE past the last part (R186). -/
def partAnswer (s : State) (h : Header) (part : Byte) (fields : List (List Byte)) : Answer :=
  match partFields fields (partNumber h part) with
  | some bs => .ok s bs
  | none => .refuse .badValue

def pickupGroupQueryOwner (h : Header) (group part : Byte) (s : State) : Answer :=
  match readFin 48 group.toNat with
  | none => .refuse .badValue
  | some p => partAnswer s h part (pickupGroupFields s p)

/-- PICKUP GROUP QUERY. -/
def execPickupGroupQuery (h : Header) (group part : Byte) (s : State) : Result :=
  .next (request s 0x13 [1, 2] h (pickupGroupQueryOwner h group part))

/-- The fields of an ORBIT QUERY reply; those of a HELD orbit are absent in a FREE one, and the position in the free order in a
HELD one (R96, R185). -/
def orbitFields (s : State) (o : OrbitId) : List Byte :=
  let r := s.orbit o
  [r.state.code, r.gen] ++
  (match r.call with
    | some c =>
      callFields s c ++ [(s.call c).state.code] ++ encStationOpt r.parker ++ encRemaining s.now r.recallDl ++
        encBool (s.call c).recallPending ++ encRef (s.call c).annPage
    | none =>
      encRef (none : Option (CallId × Byte)) ++ [absent8] ++ encStationOpt none ++ encRemaining s.now none ++ encBool false ++
        encRef (none : Option (PageId × Byte))) ++
  (match s.ppu.freeOrder.findIdx? fun p => p == o with
    | some i => enc8 i
    | none => [absent8])

def orbitQueryOwner (orbit : Byte) (s : State) : Answer :=
  match readFin 32 orbit.toNat with
  | none => .refuse .badValue
  | some o => .ok s (orbitFields s o)

/-- ORBIT QUERY. -/
def execOrbitQuery (h : Header) (orbit : Byte) (s : State) : Result :=
  .next (request s 0x14 [1] h (orbitQueryOwner orbit))

/-- The capabilities byte of R185. -/
def ServiceClass.capabilities (k : ServiceClass) : Byte :=
  (if k.directed then 1 else 0) ||| (if k.queuePickup then 2 else 0) ||| (if k.park then 4 else 0) |||
    (if k.summon then 8 else 0)

/-- The fields of a class entry in the order of CLASS SET (R79, R96). -/
def ServiceClass.fields (k : ServiceClass) : List Byte :=
  [k.capabilities] ++ enc16 k.recallTicks ++ enc16 k.coverageTicks ++
  (match k.announceCode with
    | some (d, i) => enc8 d.val ++ enc8 i.val
    | none => [absent8, absent8])

def classQueryOwner (cls : Byte) (s : State) : Answer :=
  match readFin 4 cls.toNat with
  | none => .refuse .badValue
  | some k => .ok s (s.cls k).fields

/-- CLASS QUERY. -/
def execClassQuery (h : Header) (cls : Byte) (s : State) : Result :=
  .next (request s 0x15 [1] h (classQueryOwner cls))

end Sys2Proof.Machine
end

