-- ==== Sys2Proof/Machine/Pages.lean ====
section
/-!
DEFINITION. The Paging Controller's commands: PAGE, PAGE END, the page and bus queries, and the expiries of a page's deadlines
(chapter 6).
-/

namespace Sys2Proof.Machine

/-! ## PAGE (R118) -/

/-- The rights of a requester at this moment (R103). -/
def rightsOf (s : State) : Requester → Rights
  | .station x => .cls (s.station x).cfg.cls
  | .console => .console

def Requester.origin : Requester → Origin
  | .station x => .station x
  | .console => .console

/-- A live VOICE page has this input slot. -/
def slotInUse (s : State) (n : SlotId) : Bool :=
  (List.finRange 16).any fun p => (s.page p).live && (s.page p).kind == .voice && (s.page p).source == .slot n

/-- The checks of a VOICE code on its requester and input slot, in their order (R118 check 5): the slot, or the refusal. -/
def voiceCheck (s : State) (r : Requester) (source : Byte) : Except Code SlotId :=
  match readFin 16 source.toNat with
  | none => .error .badValue
  | some n =>
    match r with
    | .station x =>
      if (s.station x).state ≠ .busy then .error .wrongState
      else if (s.station x).voicePage.isSome then .error .inUse
      else if slotInUse s n then .error .slotInUse
      else .ok n
    | .console => if slotInUse s n then .error .slotInUse else .ok n

/-- The kind and source of a requested page: an input slot for a VOICE code, the prompt number for a PROMPT code. -/
def pageSource (s : State) (r : Requester) (k : SourceKind) (source : Byte) : Except Code (PageKind × PageSource) :=
  match k with
  | .voice =>
    match voiceCheck s r source with
    | .ok n => .ok (.voice, .slot n)
    | .error e => .error e
  | .prompt => .ok (.prompt, .prompt source)

/-- The page a PAGE request asks for. -/
def codePageRequest (origin : Origin) (r : Resolved) (kind : PageKind) (source : PageSource) : PageRequest :=
  { kind := kind, origin := origin, priority := r.code.priority, zones := r.zones, source := source,
    preludeChannel := r.code.preludeChannel, preludeTone := r.code.preludeTone, preludeTicks := r.code.preludeTicks,
    maxDuration := r.code.maxDuration, waitTicks := r.code.waitTicks, codeEntry := some r.entry, chain := r.chain }

/-- The checks of a PAGE request up to its start attempt, and the attempt. -/
def pageAttempt (s : State) (requester : Half) (directory entry source : Byte) : Except Code Started :=
  match readRequester requester with
  | none => .error .badValue
  | some r =>
    match readFin 8 directory.toNat with
    | none => .error .noSuchCode
    | some d =>
      match resolveCode s d entry.toNat (rightsOf s r) with
      | .error e => .error e
      | .ok v =>
        match pageSource s r v.code.sourceKind source with
        | .error e => .error e
        | .ok (kind, src) => startAttempt s (codePageRequest r.origin v kind src)

/-- Page id and generation, state, bus or absent, zones taken, and the page cut for its bus or absent. -/
def startedFields (r : Started) : List Byte :=
  let p := r.state.page r.page
  encRef (some (r.page, p.gen)) ++ [p.state.code] ++ encOpt p.bus ++ enc8 p.audible.length ++ encRef r.cut

def pageOwner (requester : Half) (directory entry source : Byte) (s : State) : Answer :=
  if ¬ s.running then .refuse .notRunning
  else
    match pageAttempt s requester directory entry source with
    | .error e => .refuse e
    | .ok r => .ok r.state (startedFields r)

/-- PAGE. -/
def execPage (h : Header) (requester : Half) (directory entry source : Byte) (s : State) : Result :=
  .next (request s 0x3A [5] h (pageOwner requester directory entry source))

/-! ## PAGE END (R128) -/

/-- The requester may end the page: the console every page, a station its own. -/
def mayEnd (r : Requester) (o : Origin) : Bool :=
  match r with
  | .console => true
  | .station _ => o == r.origin

def pageEndOwner (page generation : Byte) (requester : Half) (s : State) : Answer :=
  if ¬ s.running then .refuse .notRunning
  else
    match readFin 16 page.toNat, readRequester requester with
    | some p, some r =>
      if staleGen generation (s.page p).gen then .refuse .stale
      else if (s.page p).state = .ended then .refuse .wrongState
      else if ¬ mayEnd r (s.page p).origin then .refuse .denied
      else .ok (endPage s p .released) [(s.page p).state.code]
    | _, _ => .refuse .badValue

/-- PAGE END. -/
def execPageEnd (h : Header) (page generation : Byte) (requester : Half) (s : State) : Result :=
  .next (request s 0x3B [4] h (pageEndOwner page generation requester))

/-! ## Expiries (R123, R127) -/

/-- WAIT TIMEOUT: a QUEUED page's wait deadline expires. A deadline that is not due expires nothing (R1). -/
def execWaitTimeout (p : PageId) (s : State) : Result :=
  .next <|
    if (s.page p).state = .queued ∧ due s.now (s.page p).waitDl then finish (endPage s p .waitTimeout) else s

/-- The page has started and not ended: it is in PRELUDE, PLAYING or HELD. -/
def Page.started (p : Page) : Bool := p.state == .prelude || p.state == .playing || p.state == .held

/-- END DEADLINE EXPIRY: the end deadline of a page in PRELUDE, PLAYING or HELD expires. -/
def execEndDeadlineExpiry (p : PageId) (s : State) : Result :=
  .next <|
    if (s.page p).started ∧ due s.now (s.page p).endDl then finish (endPage s p .expired) else s

/-- The prelude of page `p` on bus `b` ends (R123): its claim is dropped, its main source is taken, and a page in PRELUDE goes
PLAYING. -/
def preludeEnds (s : State) (p : PageId) (b : BusId) : State :=
  let s := s.modPage p fun r => { r with preludeDl := none }
  let s := dropClaim s (s.page p).preludeChannel .prelude
  let s := takeMainSource s p b
  s.modPage p fun r => if r.state = .prelude then { r with state := .playing } else r

/-- PRELUDE EXPIRY, in PRELUDE or HELD. -/
def execPreludeExpiry (p : PageId) (s : State) : Result :=
  .next <|
    match (s.page p).bus with
    | some b => if due s.now (s.page p).preludeDl then finish (preludeEnds s p b) else s
    | none => s

/-! ## Queries (R134) -/

/-- A live page's prelude: channel, tone, ticks. A TONE page has none (6.1, R105), so its fields carry their absent codes (R185;
the ticks, which have none, are 0: assumption 37). -/
def encPrelude (r : Page) : List Byte :=
  if r.kind = .tone then [absent8, absent8, 0, 0]
  else enc8 r.preludeChannel.val ++ enc8 r.preludeTone.val ++ enc16 r.preludeTicks

/-- The scalar fields of a live page in the order of 6.1, then its position in the page queue. -/
def livePageScalars (s : State) (p : PageId) : List (List Byte) :=
  let r := s.page p
  [[r.gen], [r.state.code], [r.kind.code], encOrigin r.origin, enc8 r.priority.val, encZones r.requested, encZones r.audible,
   encZones r.suspended, encZones r.beacons, encOpt r.bus, encPageSource r.source,
   encPrelude r, enc16 r.maxDuration, enc16 r.waitTicks,
   encOpt r.codeEntry, encTick r.requestTick, encTickOpt r.startTick, encRemaining s.now r.waitDl,
   encRemaining s.now r.preludeDl, encRemaining s.now r.endDl, encCause r.endCause,
   (match s.pgc.queue.findIdx? fun q => q == p with
    | some i => enc8 i
    | none => [absent8])]

/-- An ENDED record gives its state, generation and last end cause; every other field is absent or empty (R134,
assumption 11). -/
def endedPageScalars (s : State) (p : PageId) : List (List Byte) :=
  let r := s.page p
  [[r.gen], [r.state.code], [absent8], [absent8, absent8, absent8, absent8], [absent8], encZones [], encZones [], encZones [],
   encZones [], [absent8], [absent8, absent8], [absent8, absent8, 0, 0], [0, 0], [0, 0], [absent8], [0, 0, 0, 0],
   encTickOpt none, encRemaining s.now none, encRemaining s.now none, encRemaining s.now none, encCause r.endCause, [absent8]]

/-- The fields of a PAGE QUERY reply: the scalar fields, then the chain (R186). -/
def pageFields (s : State) (p : PageId) : List (List Byte) :=
  if (s.page p).state = .ended then endedPageScalars s p ++ encList (fun g : PageGroupId => enc8 g.val) []
  else livePageScalars s p ++ encList (fun g : PageGroupId => enc8 g.val) (s.page p).chain

def pageQueryOwner (h : Header) (page part : Byte) (s : State) : Answer :=
  match readFin 16 page.toNat with
  | none => .refuse .badValue
  | some p => partAnswer s h part (pageFields s p)

/-- PAGE QUERY. -/
def execPageQuery (h : Header) (page part : Byte) (s : State) : Result :=
  .next (request s 0x19 [1, 2] h (pageQueryOwner h page part))

/-- A page named with its present generation. -/
def pageRef (s : State) (p : Option PageId) : List Byte := encRef (p.map fun p => (p, (s.page p).gen))

def busQueryOwner (bus : Byte) (s : State) : Answer :=
  match readFin 8 bus.toNat with
  | none => .refuse .badValue
  | some b => .ok s (pageRef s (s.bus b).page ++ encBusSource (s.bus b).source)

/-- BUS QUERY. -/
def execBusQuery (h : Header) (bus : Byte) (s : State) : Result :=
  .next (request s 0x1A [1] h (busQueryOwner bus))

end Sys2Proof.Machine
end

