-- ==== Sys2Proof/Machine/Field.lean ====
section
/-!
DEFINITION. The Field Line Controller (chapter 8): the line arbiter and the scan, the outcomes of an exchange, fault latching, and
the requests that act on modules and zones.
-/

namespace Sys2Proof.Machine

/-! ## Notices (R161) -/

/-- A ZONE STATE notice for zone `z` as it stands. -/
def zoneNotice (s : State) (z : ZoneId) : State :=
  let d := s.zone z
  queueReport s (.zoneState z d.kind d.service d.fault d.faultGen)

/-- A MODULE STATE notice for module `m` as it stands. -/
def moduleNotice (s : State) (m : ModuleId) : State :=
  let d := s.fieldModule m
  queueReport s (.moduleState m d.state d.configured d.sensed d.revision)

/-! ## Fault latching (R155) -/

/-- The zone record with fault `f` latched: the generation steps unless the fault is held already, and an IN SERVICE zone
becomes FAULTED. -/
def Zone.latch (d : Zone) (f : FaultKind) : Zone :=
  { d with
    fault := some f
    faultGen := if d.fault = some f then d.faultGen else nextGen d.faultGen
    service := if d.service = .inService then .faulted else d.service }

/-- Zone `z` becomes `d`: a ZONE STATE notice when its kind, service, latched fault or generation changed, then the loss when
it left IN SERVICE (R155, R161). -/
def changeZone (s : State) (z : ZoneId) (d : Zone) : State :=
  let old := s.zone z
  let t := s.modZone z fun _ => d
  let t :=
    if d.kind = old.kind ∧ d.service = old.service ∧ d.fault = old.fault ∧ d.faultGen = old.faultGen then t
    else zoneNotice t z
  if old.service = .inService ∧ d.service ≠ .inService then zoneLost t z else t

/-- Fault `f` is latched on zone `z`. -/
def latchFault (s : State) (z : ZoneId) (f : FaultKind) : State := changeZone s z ((s.zone z).latch f)

/-- Fault `f` is latched on a zone whose kind becomes NONE; one ZONE STATE notice carries both changes (R153, R160,
assumption 18). -/
def latchNoKind (s : State) (z : ZoneId) (f : FaultKind) : State :=
  changeZone s z { (s.zone z).latch f with kind := .none }

/-! ## The line arbiter and the scan (R151) -/

/-- The exchange a scan makes with a module in a state, at a value of the scan counter. -/
def scanExchange (counter : Nat) : ModuleState → Option Exchange
  | .present => some .poll
  | .missing => some .poll
  | .mismatch => some .identify
  | .absent => if counter = 0 then some .identify else none

/-- The scan counter after a complete scan. -/
def nextScan (counter : Nat) : Nat := if counter < 15 then counter + 1 else 0

/-- The position and counter after an address of the walk. -/
def nextAddress (pos : ModuleId) (counter : Nat) : ModuleId × Nat :=
  if pos.val < 23 then (pos + 1, counter) else (0, nextScan counter)

/-- The walk from an address to the first that calls for an exchange. Within 17 scans there is one, since a scan whose
counter is 0 passes over none. -/
def scanWalk (s : State) : Nat → ModuleId → Nat → Option (ModuleId × Nat × Exchange)
  | 0, _, _ => none
  | n + 1, pos, counter =>
    match scanExchange counter (s.fieldModule pos).state with
    | some x => some (pos, counter, x)
    | none => scanWalk s n (nextAddress pos counter).1 (nextAddress pos counter).2

/-- How many addresses a walk may pass. -/
def scanFuel : Nat := 408

/-- The lowest-numbered PRESENT module that holds a pending route. -/
def routeWaiting (s : State) : Option ModuleId :=
  lowestWhere fun m => (s.fieldModule m).state == .present && (s.fieldModule m).pendingRoute.isSome

/-- The next exchange of the scan is made. -/
def scanStep (s : State) : State :=
  match scanWalk s scanFuel s.flc.scanPos s.flc.scanCounter with
  | some (m, counter, x) =>
    { s with flc := { s.flc with line := .exchange m x false, scanPos := m, scanCounter := counter } }
  | none => { s with flc := { s.flc with line := .free } }

/-- The line is free, and the arbiter chooses the next exchange: a pending alert broadcast, the lowest pending route, the
scan. A broadcast is taken with the outputs that were pending and is not affected by later changes (R157; assumption 40). -/
def lineArbiter (s : State) : State :=
  match s.flc.alert with
  | some w => { s with flc := { s.flc with alert := none, line := .alert w } }
  | none =>
    match routeWaiting s with
    | some m =>
      match (s.fieldModule m).pendingRoute with
      | some r =>
        let t := s.modModule m fun d => { d with pendingRoute := none }
        { t with flc := { t.flc with line := .exchange m (.route r) false } }
      | none => scanStep s
    | none => scanStep s

/-- An exchange's outcome has been handled: the scan moves past the address of a scan exchange, and the line is free. -/
def endExchange (s : State) (m : ModuleId) (x : Exchange) : State :=
  match x with
  | .route _ => lineArbiter s
  | _ =>
    let p := nextAddress m s.flc.scanCounter
    lineArbiter { s with flc := { s.flc with scanPos := p.1, scanCounter := p.2 } }

/-! ## Failed attempts (R152) -/

/-- A zone of a module that turned out to be no module: a TYPE MISMATCH fault is removed, and no return is handed over. -/
def clearMismatch (s : State) (z : ZoneId) : State :=
  let d := s.zone z
  if d.fault = some .typeMismatch then
    zoneNotice (s.modZone z fun _ =>
      { d with fault := none, service := if d.service = .outOfService then .outOfService else .inService }) z
  else s

/-- An exchange with module `m` has failed with its retry. -/
def exchangeFailed (s : State) (m : ModuleId) : State :=
  match (s.fieldModule m).state with
  | .present =>
    let s := moduleNotice (s.modModule m fun d =>
      { d with state := .missing, pendingRoute := none, appliedRoute := none }) m
    latchFault (latchFault s (zoneA m) .noReply) (zoneB m) .noReply
  | .mismatch =>
    if (s.fieldModule m).configured = .none then
      let s := moduleNotice (s.modModule m fun d => { d with state := .absent, sensed := .none, revision := none }) m
      clearMismatch (clearMismatch s (zoneA m)) (zoneB m)
    else s
  | .missing => s
  | .absent => s

/-- The attempt in flight fails: the first is repeated at once with the same frame, the second ends the exchange. With no
exchange awaiting an answer nothing changes (R149). -/
def attemptFails (s : State) : State :=
  match s.flc.line with
  | .exchange m x false => { s with flc := { s.flc with line := .exchange m x true } }
  | .exchange m x true => finish (endExchange (exchangeFailed s m) m x)
  | _ => s

/-! ## IDENTIFY ANSWER (R153) -/

/-- The type code of an IDENTIFY answer: AMP or BEACON. -/
def readTypeCode (x : Byte) : Option ModuleType :=
  match x.toNat with
  | 1 => some .amp
  | 2 => some .beacon
  | _ => none

/-- The kind of the zones of a module type. -/
def ModuleType.zoneKind : ModuleType → ZoneKind
  | .none => .none
  | .amp => .speaker
  | .beacon => .beacon

/-- A zone of an identified module: its kind is set, a TYPE MISMATCH fault removed, and without a fault and not taken out it
is IN SERVICE. -/
def Zone.identified (d : Zone) (k : ZoneKind) : Zone :=
  let f := if d.fault = some .typeMismatch then none else d.fault
  { d with kind := k, fault := f,
           service := if d.service = .outOfService then .outOfService else if f.isNone then .inService else d.service }

/-- The notice and the return of a zone of an identified module, against the record it had before. -/
def announceZone (old : Zone) (s : State) (z : ZoneId) : State :=
  let d := s.zone z
  if d.kind = old.kind ∧ d.service = old.service then s
  else
    let t := zoneNotice s z
    if d.service = .inService then zoneReturned t z else t

/-- The channel outputs become the pending alert broadcast when a beacon module becomes PRESENT. -/
def alertIfBeacon (s : State) (m : ModuleId) : State :=
  if (s.fieldModule m).sensed = .beacon then setAlert s else s

/-- Module `m` is identified with its configured type. -/
def moduleIdentified (s : State) (m : ModuleId) (t : ModuleType) : State :=
  let oldA := s.zone (zoneA m)
  let oldB := s.zone (zoneB m)
  let s := s.modModule m fun d =>
    { d with state := .present, pendingRoute := some { a := none, b := none }, appliedRoute := none }
  let s := s.modZone (zoneA m) fun d => d.identified t.zoneKind
  let s := s.modZone (zoneB m) fun d => d.identified t.zoneKind
  let s := moduleNotice (alertIfBeacon s m) m
  announceZone oldB (announceZone oldA s (zoneA m)) (zoneB m)

/-- A successful IDENTIFY of module `m`. A module that is PRESENT or MISSING is sent none. -/
def identifySucceeds (s : State) (m : ModuleId) (t : ModuleType) (revision : Byte) : State :=
  let old := s.fieldModule m
  let store := s.modModule m fun d => { d with sensed := t, revision := some revision }
  match old.state with
  | .absent =>
    if t = old.configured then moduleIdentified store m t
    else
      let s := moduleNotice (store.modModule m fun d => { d with state := .mismatch }) m
      latchNoKind (latchNoKind s (zoneA m) .typeMismatch) (zoneB m) .typeMismatch
  | .mismatch =>
    if t = old.configured then moduleIdentified store m t
    else if old.sensed = t ∧ old.revision = some revision then s
    else moduleNotice store m
  | .present => s
  | .missing => s

/-- The answer's address is that of the exchange in flight. -/
def addressed (address : Byte) (m : ModuleId) : Bool := address.toNat == m.val

/-- IDENTIFY ANSWER. An answer that fails a condition of R149 fails the attempt. -/
def execIdentifyAnswer (address kind revision : Byte) (s : State) : Result :=
  .next <|
    match s.flc.line with
    | .exchange m .identify _ =>
      match addressed address m, readTypeCode kind with
      | true, some t => finish (endExchange (identifySucceeds s m t revision) m .identify)
      | _, _ => attemptFails s
    | _ => attemptFails s

/-! ## ROUTE ANSWER (R156) -/

/-- A ROUTE setting as a byte. -/
def settingByte : Setting → Byte
  | none => absent8
  | some k => BitVec.ofNat 8 k.val

/-- ROUTE ANSWER: the echoed settings become the applied route. -/
def execRouteAnswer (address settingA settingB : Byte) (s : State) : Result :=
  .next <|
    match s.flc.line with
    | .exchange m (.route r) _ =>
      if addressed address m ∧ settingA = settingByte r.a ∧ settingB = settingByte r.b then
        finish (endExchange (s.modModule m fun d => { d with appliedRoute := some r }) m (.route r))
      else attemptFails s
    | _ => attemptFails s

/-! ## POLL ANSWER (R154) -/

/-- A POLL status word. -/
inductive ChannelStatus where
  | load (reading : BitVec 15)
  | fault (f : FaultKind)
deriving DecidableEq, Repr

/-- A status word: a load reading when its top bit is clear, a fault code 1..4 when it is set. -/
def readStatusWord (w : Half) : Option ChannelStatus :=
  if w.msb then
    match (w.extractLsb' 0 15).toNat with
    | 1 => some (.fault .openLine)
    | 2 => some (.fault .shortLine)
    | 3 => some (.fault .overtemp)
    | 4 => some (.fault .supply)
    | _ => none
  else some (.load (w.extractLsb' 0 15))

/-- A status word is taken for its channel. -/
def takeStatus (s : State) (z : ZoneId) : ChannelStatus → State
  | .load r => s.modZone z fun d => { d with load := some r }
  | .fault f => latchFault s z f

/-- A MISSING module that answers a poll becomes PRESENT. -/
def moduleReturns (s : State) (m : ModuleId) : State :=
  let s := moduleNotice (s.modModule m fun d => { d with state := .present }) m
  alertIfBeacon (setPendingRoute s m) m

/-- A successful POLL of module `m`; of a module in MISMATCH (or ABSENT) the status words are discarded (R162). -/
def pollSucceeds (s : State) (m : ModuleId) (a b : ChannelStatus) : State :=
  match (s.fieldModule m).state with
  | .present => takeStatus (takeStatus s (zoneA m) a) (zoneB m) b
  | .missing => takeStatus (takeStatus (moduleReturns s m) (zoneA m) a) (zoneB m) b
  | .mismatch => s
  | .absent => s

/-- POLL ANSWER. -/
def execPollAnswer (address : Byte) (wordA wordB : Half) (s : State) : Result :=
  .next <|
    match s.flc.line with
    | .exchange m .poll _ =>
      match addressed address m, readStatusWord wordA, readStatusWord wordB with
      | true, some a, some b => finish (endExchange (pollSucceeds s m a b) m .poll)
      | _, _, _ => attemptFails s
    | _ => attemptFails s

/-! ## The other events of the line (R149, R151, R165) -/

/-- INVALID ANSWER: the answer is complete but fails a condition of R149. -/
def execInvalidAnswer (_frame : List Byte) (s : State) : Result := .next (attemptFails s)

/-- ANSWER TIMEOUT: no answer byte within 15 ms. -/
def execAnswerTimeout (s : State) : Result := .next (attemptFails s)

/-- ANSWER GAP: the bytes received are discarded, and the attempt fails at once. -/
def execAnswerGap (_received : List Byte) (s : State) : Result := .next (attemptFails s)

/-- ALERT SENT: the last byte of an ALERT frame has gone, and the line is free. -/
def execAlertSent (s : State) : Result :=
  .next <|
    match s.flc.line with
    | .alert _ => finish (lineArbiter s)
    | _ => s

/-- FIELD LINE RESTART HOLDOFF: 15 ms after a warm restart the line is free. -/
def execFieldLineRestartHoldoff (s : State) : Result :=
  .next <|
    match s.flc.line with
    | .holdoff => finish (lineArbiter s)
    | _ => s

/-- STRAY FIELD LINE BYTES: bytes that arrive while no exchange awaits an answer are discarded. -/
def execStrayFieldLineBytes (_received : List Byte) (s : State) : Result := .next s

/-! ## ZONE RESTORE (R158) -/

def zoneRestoreOwner (zone generation : Byte) (s : State) : Answer :=
  if ¬ s.running then .refuse .notRunning
  else
    match readFin 48 zone.toNat with
    | none => .refuse .badValue
    | some z =>
      if (s.zone z).service ≠ .faulted then .refuse .wrongState
      else if staleGen generation (s.zone z).faultGen then .refuse .stale
      else if (s.fieldModule (moduleOf z)).state ≠ .present then .refuse .wrongState
      else
        let t := zoneNotice (s.modZone z fun d => { d with fault := none, service := .inService }) z
        let t := setPendingRoute (zoneReturned t z) (moduleOf z)
        .ok t [(t.zone z).service.code, (t.zone z).faultGen]

/-- ZONE RESTORE. -/
def execZoneRestore (h : Header) (zone generation : Byte) (s : State) : Result :=
  .next (request s 0x3E [2] h (zoneRestoreOwner zone generation))

/-! ## ZONE SERVICE (R159) -/

/-- The zone goes OUT OF SERVICE. -/
def zoneOff (s : State) (z : ZoneId) : State := changeZone s z { s.zone z with service := .outOfService }

/-- The zone is put back: FAULTED over a latched fault, IN SERVICE otherwise. -/
def zoneOn (s : State) (z : ZoneId) : State :=
  if (s.zone z).fault.isSome then zoneNotice (s.modZone z fun d => { d with service := .faulted }) z
  else
    let t := zoneNotice (s.modZone z fun d => { d with service := .inService }) z
    if (s.zone z).kind = .none then t else setPendingRoute (zoneReturned t z) (moduleOf z)

def zoneServiceOwner (zone setting : Byte) (s : State) : Answer :=
  if ¬ s.running then .refuse .notRunning
  else
    match readFin 48 zone.toNat, readFlag setting with
    | some z, some on =>
      let out : Bool := (s.zone z).service == .outOfService
      if on = out then
        let t := if on then zoneOn s z else zoneOff s z
        .ok t [(t.zone z).service.code]
      else .refuse .wrongState
    | _, _ => .refuse .badValue

/-- ZONE SERVICE. -/
def execZoneService (h : Header) (zone setting : Byte) (s : State) : Result :=
  .next (request s 0x3F [2] h (zoneServiceOwner zone setting))

/-! ## MODULE SET (R160) -/

/-- The configured type of module `m` becomes `t`, which differs from it. -/
def storeModule (s : State) (m : ModuleId) (t : ModuleType) : State :=
  let s := s.modModule m fun d => { d with configured := t }
  match (s.fieldModule m).state with
  | .absent => s
  | .mismatch => s
  | _ =>
    let s := moduleNotice (s.modModule m fun d =>
      { d with state := .mismatch, pendingRoute := none, appliedRoute := none }) m
    latchNoKind (latchNoKind s (zoneA m) .typeMismatch) (zoneB m) .typeMismatch

def moduleSetOwner (moduleNo kind : Byte) (s : State) : Answer :=
  match readFin 24 moduleNo.toNat, readModuleType kind with
  | some m, some t =>
    if s.isSaving then .refuse .storeBusy
    else
      let u := if (s.fieldModule m).configured = t then s else storeModule s m t
      .ok u [(u.fieldModule m).state.code]
  | _, _ => .refuse .badValue

/-- MODULE SET. -/
def execModuleSet (h : Header) (moduleNo kind : Byte) (s : State) : Result :=
  .next (request s 0x0D [2] h (moduleSetOwner moduleNo kind))

/-! ## Queries (R163) -/

/-- The command code of the exchange in flight with module `m`, 0xFF when none is. -/
def inFlightCode (s : State) (m : ModuleId) : Byte :=
  match s.flc.line with
  | .exchange n x _ => if n = m then x.code else absent8
  | _ => absent8

/-- The fields of the module record in the order of 8.2, then the load readings of its two zones. -/
def moduleFields (s : State) (m : ModuleId) : List Byte :=
  let d := s.fieldModule m
  [d.configured.code, d.sensed.code] ++ encRevision d.revision ++ [d.state.code] ++ encRoute d.pendingRoute ++
    encRoute d.appliedRoute ++ [inFlightCode s m] ++ encLoad (s.zone (zoneA m)).load ++ encLoad (s.zone (zoneB m)).load

def moduleQueryOwner (moduleNo : Byte) (s : State) : Answer :=
  match readFin 24 moduleNo.toNat with
  | none => .refuse .badValue
  | some m => .ok s (moduleFields s m)

/-- MODULE QUERY. -/
def execModuleQuery (h : Header) (moduleNo : Byte) (s : State) : Result :=
  .next (request s 0x1C [1] h (moduleQueryOwner moduleNo))

/-- The claim that decides a beacon zone: a kind byte, then the page and its generation, the group and 0xFF, or 0xFF and 0
(R187). -/
def claimFields (s : State) (z : ZoneId) : List Byte :=
  match followClaim s z with
  | .page p => 1 :: pageRef s (some p)
  | .group g => [2] ++ enc8 g.val ++ [absent8]
  | .none => [0, absent8, 0]

/-- The FLC fields of 8.2, then the PGC fields of 6.3, then the module's state. -/
def zoneFields (s : State) (z : ZoneId) : List Byte :=
  let d := s.zone z
  [d.kind.code, d.service.code] ++ encFault d.fault ++ [d.faultGen] ++ encLoad d.load ++ pageRef s d.playing ++
    (encList (fun p => pageRef s (some p)) d.stack).flatten ++ encOpt d.follow ++ claimFields s z ++
    encSetting d.route ++ [(s.fieldModule (moduleOf z)).state.code]

def zoneQueryOwner (zone : Byte) (s : State) : Answer :=
  match readFin 48 zone.toNat with
  | none => .refuse .badValue
  | some z => .ok s (zoneFields s z)

/-- ZONE QUERY. -/
def execZoneQuery (h : Header) (zone : Byte) (s : State) : Result :=
  .next (request s 0x1D [1] h (zoneQueryOwner zone))

end Sys2Proof.Machine
end

