-- ==== Sys2Proof/Machine/Groups.lean ====
section
/-!
DEFINITION. The Distribution Engine's requests on hunt groups and their members: GROUP SET, MEMBER ADD, MEMBER REMOVE, MEMBER
LOGIN, MEMBER LOGOUT and GROUP MODE (chapters 2 and 3).
-/

namespace Sys2Proof.Machine

/-! ## GROUP SET (R25, R26) -/

/-- The parameters of a GROUP SET WRITE, when all are in range and neither group reference names the group itself. -/
def readGroupCfg (g : GroupId) (b : GroupSetBody) : Option GroupCfg :=
  match readMethod b.method, readRange 0 6000 b.noAnswer.toNat, readRange 0 12000 b.wrapup.toNat,
    readRange 0 15 b.roundLimit.toNat, readRange 0 32 b.queueLimit.toNat, readOpt 64 b.overflowGroup,
    readRange 0 60000 b.overflowTicks.toNat, readOpt 64 b.nightGroup, readFlag b.autoLogin with
  | some m, some na, some wr, some rl, some ql, some og, some ot, some ng, some al =>
    if og = some g ∨ ng = some g then none
    else
      some { method := m, noAnswer := na, wrapup := wr, roundLimit := rl, queueLimit := ql, overflowGroup := og,
             overflowTicks := ot, nightGroup := ng, autoLogin := al }
  | _, _, _, _, _, _, _, _, _ => none

/-- A change of method sets every credit to 0, clears every offered flag and sets the circular position to 0 (R26). -/
def resetMethodState (g : Group) : Group :=
  { g with circ := 0, members := g.members.map fun m => { m with credit := 0, offered := false } }

/-- A WRITE stores the parameters; it creates an UNUSED group (R25, R26). -/
def writeGroup (v : GroupCfg) (g : Group) : Group :=
  if g.service = .unused then { g with service := .inService, cfg := v, members := [], queue := [], circ := 0 }
  else if v.method = g.cfg.method then { g with cfg := v }
  else { resetMethodState g with cfg := v }

/-- Some call that is not FREE has the group as its current group. -/
def groupHasCalls (s : State) (g : GroupId) : Bool :=
  (List.finRange 192).any fun c => (s.call c).state != .free && (s.call c).current == some g

/-- A DELETE would remove something that live state rests on (R25 check 4). -/
def groupInUse (s : State) (g : GroupId) : Bool :=
  !(s.group g).members.isEmpty || groupHasCalls s g || (s.group g).ann.state != .idle || (s.group g).beacon.state != .off

def groupSetOwner (b : GroupSetBody) (s : State) : Answer :=
  match readFin 64 b.group.toNat with
  | none => .refuse .badValue
  | some g =>
    match b.action.toNat with
    | 0 =>
      match readGroupCfg g b with
      | none => .refuse .badValue
      | some v =>
        if s.isSaving then .refuse .storeBusy
        else if v.queueLimit < (s.group g).queue.length then .refuse .inUse
        else
          let t := s.modGroup g (writeGroup v)
          .ok t [(t.group g).service.code]
    | 1 =>
      if s.isSaving then .refuse .storeBusy
      else if groupInUse s g then .refuse .inUse
      else if (s.group g).service = .unused then .ok s [ServiceState.unused.code]
      else .ok (s.modGroup g fun _ => Group.reset) [ServiceState.unused.code]
    | _ => .refuse .badValue

/-- GROUP SET. -/
def execGroupSet (h : Header) (b : GroupSetBody) (s : State) : Result := .next (request s 0x02 [14] h (groupSetOwner b))

/-! ## The member pool and the membership bookkeeping (R27, R30) -/

/-- The count of free entries of the member pool (R27). -/
def poolFree (s : State) : Nat :=
  Config.poolSize - ((List.finRange 64).map fun g => (s.group g).members.length).sum

/-- The circular position after an entry was added at index `i` (R30). -/
def circAfterAdd (p i oldLen : Nat) : Nat := if oldLen = 0 then 0 else if i ≤ p then p + 1 else p

/-- The circular position after the entry at index `i` was removed, leaving `newLen` entries (R30). -/
def circAfterRemove (p i newLen : Nat) : Nat :=
  if newLen = 0 then 0
  else if i < p then p - 1
  else if i = p then if 0 < p then p - 1 else newLen - 1
  else p

/-- Every member entry of a changed group gets credit 0 and a clear offered flag (R30). -/
def resetMembers (ms : List Member) : List Member := ms.map fun m => { m with credit := 0, offered := false }

/-! ## MEMBER ADD (R28) -/

/-- The entry is inserted in the group's member list and the group in the station's membership list. -/
def addMember (s : State) (g : GroupId) (x : StationId) (weight pos pref : Nat) : State :=
  let s := s.modGroup g fun r =>
    let m : Member := { station := x, weight := weight, loggedIn := r.cfg.autoLogin, offered := false, credit := 0 }
    { r with members := resetMembers (insertAt m pos r.members), circ := circAfterAdd r.circ pos r.members.length }
  s.modStation x fun t => { t with memberships := insertAt g pref t.memberships }

def memberAddOwner (group : Byte) (station : Half) (weight listPos prefPos : Byte) (s : State) : Answer :=
  match readFin 64 group.toNat, readStation station, readRange 1 8 weight.toNat with
  | some g, some x, some w =>
    match readPosition 31 (s.group g).members.length listPos, readPosition 3 (s.station x).memberships.length prefPos with
    | some pos, some pref =>
      if (s.group g).service = .unused then .refuse .badValue
      else if s.isSaving then .refuse .storeBusy
      else if (entryOf (s.group g) x).isSome then .refuse .alreadyMember
      else if Config.memberLimit ≤ (s.group g).members.length then .refuse .groupFull
      else if Config.membershipLimit ≤ (s.station x).memberships.length then .refuse .limit
      else if poolFree s = 0 then .refuse .noResource
      else
        let t := addMember s g x w pos pref
        .ok (if (s.group g).cfg.autoLogin then offer t x else t) (enc8 pos ++ enc16 (poolFree t))
    | _, _ => .refuse .badValue
  | _, _, _ => .refuse .badValue

/-- MEMBER ADD. -/
def execMemberAdd (h : Header) (group : Byte) (station : Half) (weight listPos prefPos : Byte) (s : State) : Result :=
  .next (request s 0x03 [6] h (memberAddOwner group station weight listPos prefPos))

/-! ## MEMBER REMOVE (R29) -/

/-- Station `x` rings for a RINGING GROUP call whose current group is `g`. A station that a RECALLING call rings is not one: the
recall rings on when its member is removed or logged out (R47, R90; assumption 34). -/
def ringsForGroup (s : State) (x : StationId) (g : GroupId) : Option CallId :=
  match (s.station x).state, (s.station x).call with
  | .ringing, some c =>
    if (s.call c).kind = .group ∧ (s.call c).state = .ringing ∧ (s.call c).current = some g then some c else none
  | _, _ => none

/-- The entry is taken out of the group's member list and the group out of the station's membership list. -/
def dropMember (s : State) (g : GroupId) (x : StationId) : State :=
  let s := s.modGroup g fun r =>
    match r.members.findIdx? fun m => m.station == x with
    | some i =>
      { r with members := resetMembers (r.members.eraseIdx i), circ := circAfterRemove r.circ i (r.members.length - 1) }
    | none => r
  s.modStation x fun t => { t with memberships := t.memberships.erase g }

/-- The steps of MEMBER REMOVE. -/
def removeMember (s : State) (g : GroupId) (x : StationId) : State :=
  match ringsForGroup s x g with
  | some c => offer (leaveWithoutTried (dropMember (ringLeave s c .idle x) g x) c g) x
  | none => offer (dropMember s g x) x

def memberRemoveOwner (group : Byte) (station : Half) (s : State) : Answer :=
  match readFin 64 group.toNat, readStation station with
  | some g, some x =>
    if (s.group g).service = .unused then .refuse .badValue
    else if s.isSaving then .refuse .storeBusy
    else if (entryOf (s.group g) x).isNone then .refuse .notMember
    else
      let t := removeMember s g x
      .ok t (enc16 (poolFree t))
  | _, _ => .refuse .badValue

/-- MEMBER REMOVE. -/
def execMemberRemove (h : Header) (group : Byte) (station : Half) (s : State) : Result :=
  .next (request s 0x04 [3] h (memberRemoveOwner group station))

/-! ## MEMBER LOGIN and MEMBER LOGOUT (R31, R32) -/

/-- The groups that a login or logout of station `x` names: the named group, or for ALL every group of its membership list;
none when the station is not a member. -/
def loginGroups (s : State) (x : StationId) (group : Option GroupId) : Option (List GroupId) :=
  match group with
  | some g => if (entryOf (s.group g) x).isSome then some [g] else none
  | none => if (s.station x).memberships = [] then none else some (s.station x).memberships

/-- The login flag of station `x`'s entry in each group is set to `v`. -/
def setLogin (s : State) (x : StationId) (v : Bool) (gs : List GroupId) : State :=
  gs.foldl (fun s g => s.modGroup g fun r =>
    { r with members := r.members.map fun m => if m.station = x then { m with loggedIn := v } else m }) s

/-- The groups among `gs` in which the login flag of station `x` is not `v` yet. -/
def loginChanges (s : State) (x : StationId) (v : Bool) (gs : List GroupId) : List GroupId :=
  gs.filter fun g => match entryOf (s.group g) x with
    | some m => m.loggedIn != v
    | none => false

/-- The checks that MEMBER LOGIN and MEMBER LOGOUT share, in their order: the station and the groups, or the refusal. -/
def loginCheck (s : State) (station : Half) (group : Byte) : Except Code (StationId × List GroupId) :=
  if ¬ s.running then .error .notRunning
  else
    match readStation station, readOpt 64 group with
    | some x, some g =>
      match loginGroups s x g with
      | some gs => .ok (x, gs)
      | none => .error .notMember
    | _, _ => .error .badValue

def memberLoginOwner (station : Half) (group : Byte) (s : State) : Answer :=
  match loginCheck s station group with
  | .error c => .refuse c
  | .ok (x, gs) =>
    let changed := loginChanges s x true gs
    let t := setLogin s x true changed
    .ok (if changed = [] then t else offer t x) (enc8 changed.length)

/-- MEMBER LOGIN. -/
def execMemberLogin (h : Header) (station : Half) (group : Byte) (s : State) : Result :=
  .next (request s 0x33 [3] h (memberLoginOwner station group))

/-- Steps 2 and 3 of a logout: a ring for a GROUP call of a group just left is stopped, the call advances, and the station is
offered to its remaining work. -/
def logoutRing (s : State) (x : StationId) (changed : List GroupId) : State :=
  match changed.findSome? fun g => (ringsForGroup s x g).map fun c => (g, c) with
  | some (g, c) => offer (leaveWithoutTried (ringLeave s c .idle x) c g) x
  | none => s

def memberLogoutOwner (station : Half) (group : Byte) (s : State) : Answer :=
  match loginCheck s station group with
  | .error c => .refuse c
  | .ok (x, gs) =>
    let changed := loginChanges s x false gs
    .ok (logoutRing (setLogin s x false changed) x changed) (enc8 changed.length)

/-- MEMBER LOGOUT. -/
def execMemberLogout (h : Header) (station : Half) (group : Byte) (s : State) : Result :=
  .next (request s 0x34 [3] h (memberLogoutOwner station group))

/-! ## GROUP MODE (R63 to R66) -/

/-- The switch to NIGHT: with a night group, the calls of the queue are redirected there in queue order (R64). -/
def switchNight (s : State) (g : GroupId) : State :=
  match (s.group g).cfg.nightGroup with
  | some n => (s.group g).queue.foldl (fun s c => (redirect s c g n .night).1) s
  | none => s

/-- The RINGING calls of group `g`, by offer tick and then call id (R66). -/
def ringingCalls (s : State) (g : GroupId) : List CallId :=
  (allWhere fun c => (s.call c).state == .ringing && (s.call c).kind == .group && (s.call c).current == some g).foldl
    (fun l c => insertBy (fun a b => earlier s.now (s.call a).offerTick (s.call b).offerTick) c l) []

/-- Every member of `g` available for RINGING call `c` joins it (R66 step 1). -/
def joinAvailable (g : GroupId) (s : State) (c : CallId) : State :=
  (((s.group g).members.filter (memberAvailable s g c)).map fun m => m.station).foldl (fun s x => ringJoin s c .group x) s

/-- A queued call of `g` rings if a member is available, tried or untried (R66 step 2). -/
def serveQueued (g : GroupId) (s : State) (c : CallId) : State := if anyFree s g then ringAvailable s c g else s

/-- The switch to IN SERVICE: the waiting calls are offered to the members at once (R66). -/
def switchInService (s : State) (g : GroupId) : State :=
  let s := if (s.group g).cfg.method = .ringAll then (ringingCalls s g).foldl (joinAvailable g) s else s
  (s.group g).queue.foldl (serveQueued g) s

/-- The service state of group `g` changes, with the effects of the switch. -/
def switchMode (s : State) (g : GroupId) (mode : ServiceState) : State :=
  if (s.group g).service = mode then s
  else
    let t := s.modGroup g fun r => { r with service := mode }
    match mode with
    | .inService => switchInService t g
    | .night => switchNight t g
    | .closed => t
    | .unused => t

def groupModeOwner (group mode : Byte) (s : State) : Answer :=
  match readFin 64 group.toNat, readMode mode with
  | some g, some m =>
    if (s.group g).service = .unused then .refuse .badValue
    else
      let t := switchMode s g m
      .ok t ([(t.group g).service.code] ++ enc8 (t.group g).queue.length)
  | _, _ => .refuse .badValue

/-- GROUP MODE. -/
def execGroupMode (h : Header) (group mode : Byte) (s : State) : Result :=
  .next (request s 0x21 [2] h (groupModeOwner group mode))

end Sys2Proof.Machine
end

