-- ==== Sys2Proof/Machine/Queries.lean ====
section
/-!
DEFINITION. STATION QUERY, CALL QUERY and GROUP QUERY (R22, R50, R75).
-/

namespace Sys2Proof.Machine

/-! ## STATION QUERY (R22) -/

/-- Every field of the station record, in the order of 1.3. -/
def stationFields (s : State) (x : StationId) : List Byte :=
  let t := s.station x
  [t.state.code] ++ encOpt t.call ++ encBool t.dnd ++ enc8 t.cfg.cls.val ++ encOpt t.cfg.pickup ++ encOpt t.cfg.coverage ++
    [t.cfg.startService.code] ++ (encList (fun g : GroupId => enc8 g.val) t.memberships).flatten ++ [t.ringGen] ++
    encTick t.idleSince ++ encRemaining s.now t.wrapupDl ++ encOpt t.voicePage ++ enc16 t.cfg.label.toNat

def stationQueryOwner (station : Half) (s : State) : Answer :=
  match readStation station with
  | none => .refuse .badValue
  | some x => .ok s (stationFields s x)

/-- STATION QUERY. -/
def execStationQuery (h : Header) (station : Half) (s : State) : Result :=
  .next (request s 0x10 [2] h (stationQueryOwner station))

/-! ## CALL QUERY (R22) -/

/-- A call's overflow deadline as its remaining ticks: 0 once it has passed (R57, R75), 0xFFFF when absent. -/
def encOverflow (now : Tick) (d : Call) : List Byte :=
  match d.overflowDl with
  | none => [0xFF, 0xFF]
  | some dl => if overflowPassed now d then [0, 0] else enc16 (elapsed dl now)

/-- The scalar fields of a call record in the order of 1.4. -/
def callScalars (s : State) (c : CallId) : List (List Byte) :=
  let d := s.call c
  [[d.gen], enc16 d.hostRef.toNat, [d.kind.code], enc8 d.priority.val, encTick d.offerTick, encOpt d.home, encOpt d.current,
   encTick d.entryTick, [d.state.code], enc8 d.round, enc8 d.redirects, encRemaining s.now d.ringDl,
   encOverflow s.now d, encStationOpt d.answering, encOpt d.orbit, encStationOpt d.parker,
   encBool d.recallPending, encRef d.annPage]

/-- A FREE call gives its state and its generation, every other field absent (R22, assumption 11). -/
def freeCallScalars (s : State) (c : CallId) : List (List Byte) :=
  let d := s.call c
  [[d.gen], [0, 0], [absent8], [absent8], [0, 0, 0, 0], [absent8], [absent8], [0, 0, 0, 0], [d.state.code], [absent8],
   [absent8], encRemaining s.now none, encRemaining s.now none, encStationOpt none, [absent8], encStationOpt none,
   encBool false, encRef (none : Option (PageId × Byte))]

/-- The fields of a CALL QUERY reply: the scalar fields, then the ringing set and the tried set. -/
def callQueryFields (s : State) (c : CallId) : List (List Byte) :=
  if (s.call c).state = .free then freeCallScalars s c ++ encStations [] ++ encStations []
  else callScalars s c ++ encStations (s.call c).ringing ++ encStations (s.call c).tried

def callQueryOwner (h : Header) (call part : Byte) (s : State) : Answer :=
  match readFin 192 call.toNat with
  | none => .refuse .badValue
  | some c => partAnswer s h part (callQueryFields s c)

/-- CALL QUERY. -/
def execCallQuery (h : Header) (call part : Byte) (s : State) : Result :=
  .next (request s 0x11 [1, 2] h (callQueryOwner h call part))

/-! ## GROUP QUERY (R50, R75) -/

/-- The distribution parameters in the order of R25. -/
def GroupCfg.fields (v : GroupCfg) : List (List Byte) :=
  [[v.method.code], enc16 v.noAnswer, enc16 v.wrapup, enc8 v.roundLimit, enc8 v.queueLimit, encOpt v.overflowGroup,
   enc16 v.overflowTicks, encOpt v.nightGroup, encBool v.autoLogin]

/-- The announcement parameters in the order of ANNOUNCE SET. -/
def AnnParams.fields (p : AnnParams) : List (List Byte) :=
  [encOpt p.pageGroup, enc8 p.priority.val, enc8 p.channel.val, enc8 p.tone.val, enc16 p.length, enc8 p.arrivalCount,
   enc8 p.duringCount, enc16 p.delay]

/-- The beacon parameters in the order of BEACON SET. -/
def BeaconParams.fields (p : BeaconParams) : List (List Byte) := [encOpt p.zone, enc8 p.channel.val, enc16 p.debounce]

/-- The scalar fields: the service state and the parameters, the circular position, the free pool entries, the announcement
and the beacon. An UNUSED group holds the defaults of R51 and R76 (assumption 17). -/
def groupScalars (s : State) (g : GroupId) : List (List Byte) :=
  let r := s.group g
  [[r.service.code]] ++ r.cfg.fields ++ [enc8 r.circ, enc16 (poolFree s)] ++ r.annP.fields ++
    [[r.ann.state.code], enc8 r.ann.counter, encRemaining s.now r.ann.delayDl, encRef r.ann.live] ++ r.beaconP.fields ++
    [[r.beacon.state.code], encRemaining s.now r.beacon.dl]

/-- A member entry (R187). -/
def Member.fields (m : Member) : List Byte :=
  enc16 m.station.val ++ enc8 m.weight ++ encBool m.loggedIn ++ encBool m.offered ++ encCredit m.credit

/-- A queue entry: the call, its priority and its remaining overflow ticks (R75, R187). -/
def queueEntryFields (s : State) (c : CallId) : List Byte :=
  enc8 c.val ++ enc8 (s.call c).priority.val ++ encOverflow s.now (s.call c)

/-- The RINGING GROUP calls whose current group is `g`, in ascending order (R50). -/
def ringingGroupIds (s : State) (g : GroupId) : List CallId :=
  allWhere fun c => (s.call c).state == .ringing && (s.call c).kind == .group && (s.call c).current == some g

/-- The fields of a GROUP QUERY reply: the scalar fields, then the member list, the queue and the RINGING GROUP calls. -/
def groupQueryFields (s : State) (g : GroupId) : List (List Byte) :=
  groupScalars s g ++ encList Member.fields (s.group g).members ++ encList (queueEntryFields s) (s.group g).queue ++
    encList (fun c : CallId => enc8 c.val) (ringingGroupIds s g)

def groupQueryOwner (h : Header) (group part : Byte) (s : State) : Answer :=
  match readFin 64 group.toNat with
  | none => .refuse .badValue
  | some g => partAnswer s h part (groupQueryFields s g)

/-- GROUP QUERY. -/
def execGroupQuery (h : Header) (group part : Byte) (s : State) : Result :=
  .next (request s 0x12 [1, 2] h (groupQueryOwner h group part))

end Sys2Proof.Machine
end

