-- ==== Sys2Proof/Machine/Store.lean ====
section
/-!
DEFINITION. The store image (R178): the configured fields of every table, the bytes that spell them, and the 16-bit sum over those
bytes. The manual lists the fields and not their bytes; the layout here is the model's (assumption 10).
-/

namespace Sys2Proof.Machine

/-! ## What goes into the image -/

/-- The configured fields of every table as they stand. The save count that goes into the image is set at the completion. -/
def imageOf (s : State) : Image where
  stations := mapTable (fun t : Station => { cfg := t.cfg, dnd := t.dnd, memberships := t.memberships }) s.sct.stations
  groups := mapTable (fun g : Group =>
    { service := g.service, cfg := g.cfg, annP := g.annP, beaconP := g.beaconP,
      members := g.members.map fun m => (m.station, m.weight) }) s.de.groups
  links := mapTable (fun p : PickupGroup => p.links) s.ppu.pickups
  classes := s.ppu.classes
  directories := s.pdir.directories
  entries := s.pdir.entries
  pageGroups := mapTable (fun p : PageGroup => p.cfg) s.pdir.pageGroups
  slots := mapTable (fun c : Channel => (c.slotA, c.slotB)) s.ag.channels
  types := mapTable (fun m : FieldModule => m.configured) s.flc.modules
  saveCount := s.cs.count

/-! ## Its bytes: the owners of R178 in order, each field as R185 encodes it -/

/-- A station's share: the fields of 1.3 that are stored, then the membership list. -/
def StationImage.bytes (i : StationImage) : List Byte :=
  enc8 i.cfg.cls.val ++ encOpt i.cfg.pickup ++ encOpt i.cfg.coverage ++ [i.cfg.startService.code] ++ enc16 i.cfg.label.toNat ++
    encBool i.dnd ++ (encList (fun g : GroupId => enc8 g.val) i.memberships).flatten

/-- A hunt group's share: the service state, the parameters of R25, R67 and R74, then the member list. -/
def GroupImage.bytes (i : GroupImage) : List Byte :=
  [i.service.code] ++ i.cfg.fields.flatten ++ i.annP.fields.flatten ++ i.beaconP.fields.flatten ++
    (encList (fun m : StationId × Nat => enc16 m.1.val ++ enc8 m.2) i.members).flatten

/-- Every byte of the image other than the two bytes of its sum. -/
def imageBytes (i : Image) : List Byte :=
  i.stations.toList.flatMap StationImage.bytes ++ i.groups.toList.flatMap GroupImage.bytes ++
    i.links.toList.flatMap (fun l => (encList (fun p : PickupId => enc8 p.val) l).flatten) ++
    i.classes.toList.flatMap ServiceClass.fields ++
    i.directories.toList.flatMap (fun d => enc8 d.base ++ enc8 d.length) ++ i.entries.toList.flatMap CodeEntry.fields ++
    i.pageGroups.toList.flatMap PageGroupCfg.fields ++ i.slots.toList.flatMap (fun c => c.1.fields ++ c.2.fields) ++
    i.types.toList.map ModuleType.code ++ enc16 i.saveCount.toNat

/-! ## The sum (R178) -/

/-- The sum of bytes, modulo 65536. -/
def sum16 (bs : List Byte) : Half := BitVec.ofNat 16 (bs.foldl (fun n b => n + b.toNat) 0)

/-- The sum computed over an image. -/
def imageSum (i : Image) : Half := sum16 (imageBytes i)

/-- The image is good: the stored sum equals the sum computed over its content. -/
def Cs.good (c : Cs) : Bool := c.sum == imageSum c.image

/-- The value that makes the stored sum of an image bad at a save's first step (R181; which of the values that differ is
assumption 10). -/
def badSum (i : Image) : Half := imageSum i + 1

end Sys2Proof.Machine
end

