-- ==== Sys2Proof/Machine/Control.lean ====
section
/-!
DEFINITION. The commands of the Control Link and the Configuration Store (chapters 9 and 10) and the advance of the tick counter:
the store requests, STATUS, START and RESTART, the framer's errors, the end of a sent frame, the end of a save.
-/

namespace Sys2Proof.Machine

/-! ## STORE SAVE and STORE QUERY (R180, R183) -/

/-- A save begins: the copy is taken, and the stored sum is made bad. -/
def beginSave (s : State) : State :=
  { s with cs := { s.cs with state := .saving (imageOf s) s.now, sum := badSum s.cs.image } }

def storeSaveOwner (s : State) : Answer := if s.isSaving then .refuse .storeBusy else .wait (beginSave s)

/-- STORE SAVE. -/
def execStoreSave (h : Header) (s : State) : Result := .next (request s 0x22 [0] h storeSaveOwner)

/-- The ticks elapsed since a running save began, 0xFFFF when none runs (assumption 19). -/
def encSaveElapsed (s : State) : List Byte :=
  match s.cs.state with
  | .saving _ began => enc16 (elapsed s.now began)
  | _ => [0xFF, 0xFF]

def storeQueryOwner (s : State) : Answer :=
  .ok s ([s.cs.state.code] ++ enc16 s.cs.count.toNat ++ [s.cs.last.code] ++ encSaveElapsed s)

/-- STORE QUERY. -/
def execStoreQuery (h : Header) (s : State) : Result := .next (request s 0x1F [0] h storeQueryOwner)

/-! ## SAVE COMPLETION (R181) -/

/-- The read-back sum agrees: the store holds the copy, with the stepped count in it, and its sum. -/
def saveSucceeds (s : State) (copy : Image) : State :=
  let n := s.cs.count + 1
  let i := { copy with saveCount := n }
  makeReady { s with cs := { state := .valid, count := n, last := .ok, image := i, sum := imageSum i } } .ok (enc16 n.toNat)

/-- The read-back sum differs. The stored sum, bad since the save began, stays so (assumption 10). -/
def saveFails (s : State) : State :=
  makeReady { s with cs := { s.cs with state := .invalid, last := .failed } } .storeFailed []

/-- SAVE COMPLETION, 1 to 40 ticks after the save began; at another time no save completes (assumption 20). -/
def execSaveCompletion (agree : Bool) (s : State) : Result :=
  .next <|
    match s.cs.state with
    | .saving copy began =>
      if 1 ≤ elapsed s.now began ∧ elapsed s.now began ≤ Config.saveSpan then
        finish (if agree then saveSucceeds s copy else saveFails s)
      else s
    | _ => s

/-! ## STATUS (R171) -/

/-- Run mode, lost flag, reports queued, replies ahead, tick counter, start cause. -/
def statusFields (s : State) : List Byte :=
  [s.cl.mode.code] ++ encBool s.cl.lost ++ enc8 s.cl.reports.length ++ enc8 s.cl.replies.length ++ encTick s.now ++
    [s.cl.startCause.code]

def statusOwner (s : State) : Answer := .ok s (statusFields s)

/-- The lost flag is cleared. -/
def clearLost (s : State) : State := s.modCl fun c => { c with lost := false }

/-- STATUS. The flag is cleared once the reply that shows it has been made. -/
def execStatus (h : Header) (s : State) : Result :=
  .next <|
    if intakeOf s [0x20, h.length, h.tag] = .checked ∧ h.length = 0 then clearLost (request s 0x20 [0] h statusOwner)
    else request s 0x20 [0] h statusOwner

/-! ## START (R174) -/

def startOwner (s : State) : Answer :=
  if s.running then .refuse .wrongState else .ok (s.modCl fun c => { c with mode := .run }) (encTick s.now)

/-- START. -/
def execStart (h : Header) (s : State) : Result := .next (request s 0x23 [0] h startOwner)

/-! ## RESTART (R175, R182) -/

/-- A running save is abandoned, and its reply made READY with STORE FAILED. -/
def abandonSave (s : State) : State :=
  if s.isSaving then makeReady { s with cs := { s.cs with state := .invalid, last := .abandoned } } .storeFailed [] else s

def restartOwner (s : State) : Answer := .ok (abandonSave (s.modCl fun c => { c with restart := .decoded })) []

/-- RESTART. The warm restart itself comes once the reply has been sent (`execTransmitFrameEnd`, `execWarmRestart`). -/
def execRestart (h : Header) (s : State) : Result := .next (request s 0x24 [0] h restartOwner)

/-! ## UNKNOWN REQUEST (R167) -/

/-- UNKNOWN REQUEST: the kind is tested before the length. -/
def execUnknownRequest (h : Header) (kind : Byte) (s : State) : Result :=
  .next (request s kind [h.length.toNat] h fun _ => .refuse .unknownRequest)

/-! ## Abandoned frames (R166, R167, R172) -/

/-- FRAME SUM ERROR: a complete frame with a bad sum; with a full reply list it is an overrun before it is checked. -/
def execFrameSumError (frame : List Byte) (s : State) : Result :=
  .next <|
    match intakeOf s frame with
    | .discarded => s
    | .overrun => finish (linkErrorBytes (framerHunt s) .overrun frame)
    | .checked => finish (linkErrorBytes (framerHunt s) .sum frame)

/-- FRAME OVERRUN: a complete frame arrives while the reply list is full. -/
def execFrameOverrun (frame : List Byte) (s : State) : Result :=
  .next <|
    match intakeOf s frame with
    | .overrun => finish (linkErrorBytes (framerHunt s) .overrun frame)
    | _ => s

/-- The framer takes bytes: no RESTART is under way and it is not discarding after a length error. -/
def framerTakes (s : State) : Bool := s.cl.restart == .none && s.cl.framer != .discarding

/-- The framer begins a new frame with a kind byte. -/
def framerBegins (s : State) (next : Byte) : State := s.modCl fun c => { c with framer := .collecting [next] }

/-- These bytes are those of a frame in progress: its length, if received, is at most 60, and the frame is not complete. -/
def frameInProgress : List Byte → Bool
  | [] => true
  | [_] => true
  | _ :: len :: bs => decide (len.toNat ≤ 60) && decide (bs.length + 2 < 4 + len.toNat)

/-- FRAME GAP: the frame in progress, which is what the framer held and what it received since, is abandoned, and the byte that
ends the gap begins a new one. Bytes that already make a complete frame or a length error have no gap in them: that is no event
and changes nothing (assumption 33). -/
def execFrameGap (received : List Byte) (next : Byte) (s : State) : Result :=
  .next <|
    if framerTakes s ∧ frameInProgress (framerHolds s ++ received) then
      match framerHolds s ++ received with
      | [] => framerBegins s next
      | b :: bs => finish (linkErrorBytes (framerBegins s next) .gap (b :: bs))
    else s

/-- FRAME LENGTH ERROR: a frame's second byte is above 60; the framer discards until the line has been silent. -/
def execFrameLengthError (kind length : Byte) (s : State) : Result :=
  .next <|
    if framerTakes s ∧ framerContinues s [kind, length] then
      finish (linkErrorBytes (s.modCl fun c => { c with framer := .discarding }) .length [kind, length])
    else s

/-- FRAMER SILENCE: after a length error the line has been silent for more than 5 ms. -/
def execFramerSilence (s : State) : Result :=
  .next (if s.cl.framer = .discarding then framerHunt s else s)

/-- FRAME DISCARDED AT RESTART: bytes that arrive while a RESTART is under way leave no trace (R175). -/
def execFrameDiscardedAtRestart (_received : List Byte) (s : State) : Result := .next s

/-! ## TRANSMIT FRAME END (R169, R175) -/

/-- The frame is the OK reply to a RESTART. -/
def OutFrame.isRestartReply : OutFrame → Bool
  | .reply r => r.kind == 0x24 && r.code == .ok
  | .report _ => false

/-- TRANSMIT FRAME END: the transmitter chooses again, except after the RESTART reply, which the warm restart follows. -/
def execTransmitFrameEnd (s : State) : Result :=
  .next <|
    match s.cl.tx with
    | .idle => s
    | .sending f =>
      if s.cl.restart = .decoded ∧ f.isRestartReply then s.modCl fun c => { c with tx := .idle, restart := .replySent }
      else chooseFrame s

/-! ## TICK COUNTER ADVANCE (R1) -/

/-- TICK COUNTER ADVANCE. -/
def execTickCounterAdvance (s : State) : Result := .next { s with sct := { s.sct with tick := s.sct.tick + 1 } }

end Sys2Proof.Machine
end

