-- ==== Sys2Proof/Machine/Restart.lean ====
section
/-!
DEFINITION. The cold reset, by power-on or the reset pin, and the warm restart: each block's rule for both (R23, R24, R51, R52,
R76, R97, R98, R111, R112, R135, R136, R147, R148, R164, R165, R177, R179, R182, R184).
-/

namespace Sys2Proof.Machine

/-! ## The cold load (R179) -/

/-- A station after a cold reset (R23). -/
def StationImage.load (i : StationImage) : Station :=
  { Station.reset with
    state := if i.cfg.startService = .out then .out else .idle, dnd := i.dnd, cfg := i.cfg, memberships := i.memberships }

/-- A hunt group after a cold reset (R51, R76). -/
def GroupImage.load (i : GroupImage) : Group :=
  { Group.reset with
    service := i.service, cfg := i.cfg, annP := i.annP, beaconP := i.beaconP,
    members := i.members.map fun m =>
      { station := m.1, weight := m.2, loggedIn := i.cfg.autoLogin, offered := false, credit := 0 } }

/-- The store result of a start (R184). -/
def StoreState.result : StoreState → StoreResult
  | .valid => .valid
  | _ => .invalid

/-- The Control Link after any start, with STARTED as its first report (R177). -/
def Cl.started (cause : StartCause) (result : StoreResult) : Cl where
  framer := .hunt
  replies := []
  reports := [.started cause result]
  lost := false
  mode := .setup
  tx := .idle
  restart := .none
  startCause := cause

/-- What a cold load reads: the image when its sum is good, the empty defaults when it is bad. -/
def Cs.loaded (c : Cs) : Image := if c.good then c.image else Image.empty

/-- The Configuration Store after a cold load: the image stays as it is, and the count is the image's, or 0. -/
def Cs.coldLoad (c : Cs) : Cs where
  state := if c.good then .valid else .invalid
  count := c.loaded.saveCount
  last := .none
  image := c.image
  sum := c.sum

/-- The machine after a cold reset; the commands that wait still wait. -/
def coldReset (s : State) (cause : StartCause) : State :=
  let i := s.cs.loaded
  let cs := s.cs.coldLoad
  finish <| lineArbiter
    { sct := { tick := 0, stations := mapTable StationImage.load i.stations, calls := Vector.replicate 192 (Call.freed 0) }
      de := { groups := mapTable GroupImage.load i.groups }
      ppu := {
        pickups := mapTable (fun l => { links := l, ring := [] }) i.links
        classes := i.classes
        orbits := Vector.replicate 32 (Orbit.freed 0)
        freeOrder := List.finRange 32 }
      pdir := {
        directories := i.directories
        entries := i.entries
        pageGroups := mapTable (fun p => { cfg := p, referenced := false }) i.pageGroups }
      pgc := { pages := Vector.replicate 16 (Page.ended 0), queue := [], buses := Vector.replicate 8 Bus.free }
      ag := { channels := mapTable (fun v => Channel.stopped v.1 v.2 0) i.slots }
      flc := {
        modules := mapTable FieldModule.absent i.types
        zones := Vector.replicate 48 Zone.reset
        alert := none
        line := .free
        scanPos := 0
        scanCounter := 0 }
      cs := cs
      cl := Cl.started cause cs.state.result
      pending := s.pending }

/-- POWER ON. -/
def execPowerOn (s : State) : Result := .next (coldReset s .power)

/-- RESET PIN. -/
def execResetPin (s : State) : Result := .next (coldReset s .pin)

/-! ## The warm restart (R175 step 5) -/

/-- A station after a warm restart (R24). -/
def Station.warm (now : Tick) (t : Station) : Station :=
  if t.state = .out then { t with call := none, wrapupDl := none, voicePage := none }
  else { t with state := .idle, call := none, wrapupDl := none, voicePage := none, idleSince := now }

/-- A hunt group after a warm restart (R52, R76). -/
def Group.warm (g : Group) : Group :=
  { g with
    members := g.members.map fun m => { m with loggedIn := g.cfg.autoLogin, offered := false, credit := 0 }
    circ := 0
    queue := []
    ann := AnnLive.reset
    beacon := BeaconLive.reset }

/-- A module after a warm restart (R165). -/
def FieldModule.warm (m : FieldModule) : FieldModule :=
  { m with pendingRoute := if m.state = .present then some { a := none, b := none } else none, appliedRoute := none }

/-- A zone after a warm restart: its activity is cleared, its health kept (R136, R165). -/
def Zone.warm (z : Zone) : Zone := { z with playing := none, stack := [], follow := none, route := none }

/-- The machine after a warm restart. -/
def warmRestart (s : State) : State :=
  finish
    { sct := {
        tick := s.now
        stations := mapTable (Station.warm s.now) s.sct.stations
        calls := mapTable (fun c => Call.freed c.gen) s.sct.calls }
      de := { groups := mapTable Group.warm s.de.groups }
      ppu := {
        pickups := mapTable (fun p => { p with ring := [] }) s.ppu.pickups
        classes := s.ppu.classes
        orbits := mapTable (fun o => Orbit.freed o.gen) s.ppu.orbits
        freeOrder := List.finRange 32 }
      pdir := {
        directories := s.pdir.directories
        entries := s.pdir.entries
        pageGroups := mapTable (fun p => { p with referenced := false }) s.pdir.pageGroups }
      pgc := {
        pages := mapTable (fun p => Page.ended p.gen) s.pgc.pages
        queue := []
        buses := Vector.replicate 8 Bus.free }
      ag := { channels := mapTable (fun c => Channel.stopped c.slotA c.slotB s.now) s.ag.channels }
      flc := {
        modules := mapTable FieldModule.warm s.flc.modules
        zones := mapTable Zone.warm s.flc.zones
        alert := if (List.finRange 16).any fun k => (s.channel k).output then some 0 else none
        line := .holdoff
        scanPos := 0
        scanCounter := s.flc.scanCounter }
      cs := s.cs
      cl := Cl.started .restart s.cs.state.result
      pending := s.pending }

/-- WARM RESTART, when the last byte of the RESTART reply has been sent. -/
def execWarmRestart (s : State) : Result :=
  .next (if s.cl.restart = .replySent then warmRestart s else s)

end Sys2Proof.Machine
end

