-- ==== Sys2Proof/Machine/Dispatch.lean ====
section
/-!
DEFINITION. The meaning of every command: one arm for each constructor of `Instr`, each a direct call of the meaning.
-/

namespace Sys2Proof.Machine

def exec (i : Instr) (s : State) : Host.Outcome State Fault Refusal :=
  match i with
  | .stationSet h station cls pickup coverage service label => Sys2Proof.Machine.execStationSet h station cls pickup coverage service label s
  | .groupSet h body => Sys2Proof.Machine.execGroupSet h body s
  | .memberAdd h group station weight listPos prefPos => Sys2Proof.Machine.execMemberAdd h group station weight listPos prefPos s
  | .memberRemove h group station => Sys2Proof.Machine.execMemberRemove h group station s
  | .announceSet h body => Sys2Proof.Machine.execAnnounceSet h body s
  | .beaconSet h group zone channel debounce => Sys2Proof.Machine.execBeaconSet h group zone channel debounce s
  | .pickupGroupSet h group count link0 link1 link2 => Sys2Proof.Machine.execPickupGroupSet h group count link0 link1 link2 s
  | .classSet h body => Sys2Proof.Machine.execClassSet h body s
  | .directorySet h directory base length => Sys2Proof.Machine.execDirectorySet h directory base length s
  | .entrySet h body => Sys2Proof.Machine.execEntrySet h body s
  | .pageGroupSet h body => Sys2Proof.Machine.execPageGroupSet h body s
  | .cadenceSet h channel slot period onTicks => Sys2Proof.Machine.execCadenceSet h channel slot period onTicks s
  | .moduleSet h moduleNo kind => Sys2Proof.Machine.execModuleSet h moduleNo kind s
  | .stationQuery h station => Sys2Proof.Machine.execStationQuery h station s
  | .callQuery h call part => Sys2Proof.Machine.execCallQuery h call part s
  | .groupQuery h group part => Sys2Proof.Machine.execGroupQuery h group part s
  | .pickupGroupQuery h group part => Sys2Proof.Machine.execPickupGroupQuery h group part s
  | .orbitQuery h orbit => Sys2Proof.Machine.execOrbitQuery h orbit s
  | .classQuery h cls => Sys2Proof.Machine.execClassQuery h cls s
  | .directoryQuery h directory => Sys2Proof.Machine.execDirectoryQuery h directory s
  | .entryQuery h entry => Sys2Proof.Machine.execEntryQuery h entry s
  | .pageGroupQuery h pageGroup => Sys2Proof.Machine.execPageGroupQuery h pageGroup s
  | .pageQuery h page part => Sys2Proof.Machine.execPageQuery h page part s
  | .busQuery h bus => Sys2Proof.Machine.execBusQuery h bus s
  | .alertQuery h channel => Sys2Proof.Machine.execAlertQuery h channel s
  | .moduleQuery h moduleNo => Sys2Proof.Machine.execModuleQuery h moduleNo s
  | .zoneQuery h zone => Sys2Proof.Machine.execZoneQuery h zone s
  | .storeQuery h => Sys2Proof.Machine.execStoreQuery h s
  | .status h => Sys2Proof.Machine.execStatus h s
  | .groupMode h group mode => Sys2Proof.Machine.execGroupMode h group mode s
  | .storeSave h => Sys2Proof.Machine.execStoreSave h s
  | .start h => Sys2Proof.Machine.execStart h s
  | .restart h => Sys2Proof.Machine.execRestart h s
  | .offHook h station event => Sys2Proof.Machine.execOffHook h station event s
  | .onHook h station event => Sys2Proof.Machine.execOnHook h station event s
  | .serviceOff h station event => Sys2Proof.Machine.execServiceOff h station event s
  | .serviceOn h station event => Sys2Proof.Machine.execServiceOn h station event s
  | .dndOn h station event => Sys2Proof.Machine.execDndOn h station event s
  | .dndOff h station event => Sys2Proof.Machine.execDndOff h station event s
  | .callOffer h kind target priority hostRef => Sys2Proof.Machine.execCallOffer h kind target priority hostRef s
  | .callGone h call generation => Sys2Proof.Machine.execCallGone h call generation s
  | .memberLogin h station group => Sys2Proof.Machine.execMemberLogin h station group s
  | .memberLogout h station group => Sys2Proof.Machine.execMemberLogout h station group s
  | .groupPickup h station call generation => Sys2Proof.Machine.execGroupPickup h station call generation s
  | .directedPickup h station target generation => Sys2Proof.Machine.execDirectedPickup h station target generation s
  | .queuePickup h station group => Sys2Proof.Machine.execQueuePickup h station group s
  | .park h station orbit announce directory entry => Sys2Proof.Machine.execPark h station orbit announce directory entry s
  | .retrieve h station orbit generation => Sys2Proof.Machine.execRetrieve h station orbit generation s
  | .page h requester directory entry source => Sys2Proof.Machine.execPage h requester directory entry source s
  | .pageEnd h page generation requester => Sys2Proof.Machine.execPageEnd h page generation requester s
  | .summon h requester group => Sys2Proof.Machine.execSummon h requester group s
  | .summonHush h requester group => Sys2Proof.Machine.execSummonHush h requester group s
  | .zoneRestore h zone generation => Sys2Proof.Machine.execZoneRestore h zone generation s
  | .zoneService h zone setting => Sys2Proof.Machine.execZoneService h zone setting s
  | .unknownRequest h kind => Sys2Proof.Machine.execUnknownRequest h kind s
  | .frameSumError frame => Sys2Proof.Machine.execFrameSumError frame s
  | .frameGap received next => Sys2Proof.Machine.execFrameGap received next s
  | .frameLengthError kind length => Sys2Proof.Machine.execFrameLengthError kind length s
  | .framerSilence => Sys2Proof.Machine.execFramerSilence s
  | .frameOverrun frame => Sys2Proof.Machine.execFrameOverrun frame s
  | .transmitFrameEnd => Sys2Proof.Machine.execTransmitFrameEnd s
  | .warmRestart => Sys2Proof.Machine.execWarmRestart s
  | .powerOn => Sys2Proof.Machine.execPowerOn s
  | .resetPin => Sys2Proof.Machine.execResetPin s
  | .saveCompletion agree => Sys2Proof.Machine.execSaveCompletion agree s
  | .wrapupExpiry station => Sys2Proof.Machine.execWrapupExpiry station s
  | .coverageExpiry call => Sys2Proof.Machine.execCoverageExpiry call s
  | .noAnswerExpiry call => Sys2Proof.Machine.execNoAnswerExpiry call s
  | .ringAllExpiry call => Sys2Proof.Machine.execRingAllExpiry call s
  | .recallRingExpiry call => Sys2Proof.Machine.execRecallRingExpiry call s
  | .overflowExpiry call => Sys2Proof.Machine.execOverflowExpiry call s
  | .announceDelayExpiry group => Sys2Proof.Machine.execAnnounceDelayExpiry group s
  | .debounceExpiry group => Sys2Proof.Machine.execDebounceExpiry group s
  | .recallExpiry orbit => Sys2Proof.Machine.execRecallExpiry orbit s
  | .waitTimeout page => Sys2Proof.Machine.execWaitTimeout page s
  | .endDeadlineExpiry page => Sys2Proof.Machine.execEndDeadlineExpiry page s
  | .preludeExpiry page => Sys2Proof.Machine.execPreludeExpiry page s
  | .cadenceAdvance channel => Sys2Proof.Machine.execCadenceAdvance channel s
  | .identifyAnswer address kind revision => Sys2Proof.Machine.execIdentifyAnswer address kind revision s
  | .routeAnswer address settingA settingB => Sys2Proof.Machine.execRouteAnswer address settingA settingB s
  | .pollAnswer address wordA wordB => Sys2Proof.Machine.execPollAnswer address wordA wordB s
  | .invalidAnswer frame => Sys2Proof.Machine.execInvalidAnswer frame s
  | .answerTimeout => Sys2Proof.Machine.execAnswerTimeout s
  | .answerGap received => Sys2Proof.Machine.execAnswerGap received s
  | .alertSent => Sys2Proof.Machine.execAlertSent s
  | .fieldLineRestartHoldoff => Sys2Proof.Machine.execFieldLineRestartHoldoff s
  | .tickCounterAdvance => Sys2Proof.Machine.execTickCounterAdvance s
  | .frameDiscardedAtRestart received => Sys2Proof.Machine.execFrameDiscardedAtRestart received s
  | .strayFieldLineBytes received => Sys2Proof.Machine.execStrayFieldLineBytes received s

end Sys2Proof.Machine
end

