-- ==== Sys2Proof/Safety.lean ====
section
/-!
DEFINITION. The terms in which claims about runs are made: what a request's reply does, the configuration that commands keep, the
invariants of the part, and what counts as a safe run.
-/

namespace Sys2Proof.Machine

/-! ## Requests -/

/-- A complete request frame of `n` body bytes comes while the part takes requests: the framer is in HUNT, no RESTART is under
way, and the reply list has room (R166, R167). A frame whose first byte the framer already holds, the byte that ended a gap, has
the same effect (`Obligations.DamagedAndDiscardedFrames`). -/
abbrev received (s : State) (h : Header) (n : Nat) : Prop :=
  s.cl.framer = .hunt ∧ intake s = .checked ∧ h.length.toNat = n

/-- State `t`, which the owner of a request left, with the request's reply placed and an IDLE transmitter's choice made
(R167 to R169). -/
def replied (t : State) (kind : Byte) (h : Header) (code : Code) (fields : List Byte) : State :=
  finish (placeReply t kind h.tag false code fields)

/-- The reply to a request has been made: it stands in the reply list or is on the line. -/
abbrev hasReply (t : State) (kind : Byte) (h : Header) (code : Code) (fields : List Byte) : Prop :=
  let r : Reply := { kind := kind, tag := h.tag, waiting := false, code := code, lost := t.cl.lost, fields := fields }
  r ∈ t.cl.replies ∨ t.cl.tx = .sending (.reply r)

/-- The reply fields of a STATION EVENT: the station's state and current call after the event, and the call answered with its
generation (R6). -/
def eventFields (t : State) (x : StationId) (answered : Option CallId) : List Byte :=
  [(t.station x).state.code] ++ encOpt (t.station x).call ++ encRef (answered.map fun c => (c, (t.call c).gen))

/-! ## The configuration (R178) -/

/-- The configured fields of every table, without the save count. -/
def tables (s : State) : Image := { imageOf s with saveCount := 0 }

/-- The commands that may change a configured field: the configuration requests, and GROUP MODE and the do-not-disturb events,
which change stored fields too (R180); and the cold resets, which load the tables (R179). -/
def mayConfigure : Instr → Bool
  | .stationSet .. => true
  | .groupSet .. => true
  | .memberAdd .. => true
  | .memberRemove .. => true
  | .announceSet .. => true
  | .beaconSet .. => true
  | .pickupGroupSet .. => true
  | .classSet .. => true
  | .directorySet .. => true
  | .entrySet .. => true
  | .pageGroupSet .. => true
  | .cadenceSet .. => true
  | .moduleSet .. => true
  | .groupMode .. => true
  | .dndOn .. => true
  | .dndOff .. => true
  | .powerOn => true
  | .resetPin => true
  | _ => false

/-- The thirteen configuration requests (R173). -/
def isConfiguration : Instr → Bool
  | .stationSet .. => true
  | .groupSet .. => true
  | .memberAdd .. => true
  | .memberRemove .. => true
  | .announceSet .. => true
  | .beaconSet .. => true
  | .pickupGroupSet .. => true
  | .classSet .. => true
  | .directorySet .. => true
  | .entrySet .. => true
  | .pageGroupSet .. => true
  | .cadenceSet .. => true
  | .moduleSet .. => true
  | _ => false

/-- The requests that SETUP refuses (R173). -/
def isOperational : Instr → Bool
  | .offHook .. => true
  | .onHook .. => true
  | .serviceOff .. => true
  | .serviceOn .. => true
  | .dndOn .. => true
  | .dndOff .. => true
  | .callOffer .. => true
  | .callGone .. => true
  | .memberLogin .. => true
  | .memberLogout .. => true
  | .groupPickup .. => true
  | .directedPickup .. => true
  | .queuePickup .. => true
  | .park .. => true
  | .retrieve .. => true
  | .page .. => true
  | .pageEnd .. => true
  | .summon .. => true
  | .summonHush .. => true
  | .zoneRestore .. => true
  | .zoneService .. => true
  | _ => false

/-- The station number and the event byte of a STATION EVENT (R6). -/
def stationEvent? : Instr → Option (Half × Byte)
  | .offHook _ x e => some (x, e)
  | .onHook _ x e => some (x, e)
  | .serviceOff _ x e => some (x, e)
  | .serviceOn _ x e => some (x, e)
  | .dndOn _ x e => some (x, e)
  | .dndOff _ x e => some (x, e)
  | _ => none

/-- A GROUP SET body is in range: the group, and for a WRITE every parameter, for a DELETE nothing more (R25, 11.2). -/
def groupSetInRange (b : GroupSetBody) : Bool :=
  match readFin 64 b.group.toNat with
  | some g => (b.action == 0 && (readGroupCfg g b).isSome) || b.action == 1
  | none => false

/-- The numbers of a request on a member name a group that is not UNUSED and a station (R28, R29). -/
def memberInRange (s : State) (group : Byte) (station : Half) : Bool :=
  match readFin 64 group.toNat, readStation station with
  | some g, some _ => (s.group g).service != .unused
  | _, _ => false

/-- The positions of a MEMBER ADD lie in the lists they insert into (R28). -/
def positionsInRange (s : State) (group : Byte) (station : Half) (listPos prefPos : Byte) : Bool :=
  match readFin 64 group.toNat, readStation station with
  | some g, some x => (readPosition 31 (s.group g).members.length listPos).isSome &&
      (readPosition 3 (s.station x).memberships.length prefPos).isSome
  | _, _ => false

/-- A group number names a group that is not UNUSED. -/
def groupInRange (s : State) (group : Byte) : Bool :=
  match readFin 64 group.toNat with
  | some g => (s.group g).service != .unused
  | none => false

/-- A configuration request passes the range checks that its rule places before STORE BUSY (R180; R15, R25, R28, R29, R67, R74,
R78, R79, R99, R100, R101, R142, R160). -/
def configurationInRange (s : State) : Instr → Bool
  | .stationSet _ x c p v k l => (readStation x).isSome && (readStationCfg c p v k l).isSome
  | .groupSet _ b => groupSetInRange b
  | .memberAdd _ g x w i j =>
    memberInRange s g x && (readRange 1 8 w.toNat).isSome && positionsInRange s g x i j
  | .memberRemove _ g x => memberInRange s g x
  | .announceSet _ b => groupInRange s b.group && (readAnnounce b).isSome
  | .beaconSet _ g z k d => groupInRange s g && (readBeacon z k d).isSome
  | .pickupGroupSet _ g n a b c =>
    match readFin 48 g.toNat, readLinks n a b c with
    | some p, some ls => !ls.contains p && noRepeat ls
    | _, _ => false
  | .classSet _ b => decide (b.cls.toNat < 4) && (readClass b).isSome
  | .directorySet _ d b n => decide (d.toNat < 8 ∧ b.toNat ≤ 127 ∧ b.toNat + n.toNat ≤ 128)
  | .entrySet _ b => decide (b.entry.toNat < 128) && (readEntry b).isSome
  | .pageGroupSet _ b =>
    match readFin 64 b.pageGroup.toNat with
    | some g => (readPageGroup g b).isSome
    | none => false
  | .cadenceSet _ k v p n => decide (k.toNat < 16) && (readSlot v).isSome && (readCadence p n).isSome
  | .moduleSet _ m t => decide (m.toNat < 24) && (readModuleType t).isSome
  | _ => false

/-! ## Invariants -/

/-- The reply list holds at most 8 replies and the report queue at most 64 reports (R168, R170). -/
def LinkWithinCapacity (s : State) : Prop :=
  s.cl.replies.length ≤ Config.replyLimit ∧ s.cl.reports.length ≤ Config.reportLimit

/-- An IDLE transmitter has nothing to send, except between the RESTART reply and the warm restart (R169, R175). -/
def TransmitterServesQueues (s : State) : Prop :=
  s.cl.tx = .idle → s.cl.restart ≠ .replySent → s.cl.reports = [] ∧ ∀ r, s.cl.replies.head? = some r → r.waiting = true

/-- A zone that is IN SERVICE has no latched fault, and a FAULTED zone has one (8.2). -/
def ZoneServiceFollowsFault (s : State) : Prop :=
  ∀ z, ((s.zone z).service = .inService → (s.zone z).fault = none) ∧
    ((s.zone z).service = .faulted → (s.zone z).fault ≠ none)

/-- The field line is never left without an exchange, a broadcast or the wait after a warm restart (R151, R165). -/
def LineIsUsed (s : State) : Prop := s.flc.line ≠ .free

/-- A channel runs exactly while it holds a claim. A STOPPED channel has its output off and phase 0; the output of a RUNNING
channel is on exactly when the phase is below the active slot's on-ticks (R137 to R140). -/
def ChannelsFollowClaims (s : State) : Prop :=
  ∀ k, ((s.channel k).running = true ↔ (s.channel k).claims.count ≠ 0) ∧
    ((s.channel k).running = false → (s.channel k).output = false ∧ (s.channel k).phase = 0) ∧
    ((s.channel k).running = true → (s.channel k).output = decide ((s.channel k).phase < (s.channel k).cadence.on))

/-! ## Safe runs -/

/-- A step is safe when it neither faults nor is refused. -/
def SafeStep (s : State) : Prop := ∃ t, step s = .next t

end Sys2Proof.Machine
end

