-- ==== Sys2Proof/Certificates/Slice0/Obligations.lean ====
section
/-!
DEFINITION. The statements for the provers, one `def Obligations.<Name> : Prop` each; OBLIGATIONS.json lists them.
-/

open Sys2Proof Sys2Proof.Machine

/-! ## The machine as a whole -/

/-- A step takes the command at the front of the queue and runs it on the state with the queue's rest; on an empty queue it
changes nothing (the model's choice, assumption 1). -/
def Obligations.StepRunsTheFrontCommand : Prop :=
  (∀ (c : Instr) (rest : List Instr) (s : State),
    step { s with pending := c :: rest } = exec c { s with pending := rest }) ∧
  (∀ s : State, s.pending = [] → step s = .next s)

/-- Every command answers a next state in every state, and no command touches the queue. -/
def Obligations.EveryCommandAnswersANextState : Prop :=
  ∀ (c : Instr) (s : State), ∃ t, exec c s = .next t ∧ t.pending = s.pending

/-! ## Frames -/

/-- A request with a length that its kind allows, encoded as a frame, decodes to itself. -/
def Obligations.RequestFramesDecodeToTheirRequests : Prop :=
  ∀ (i : Instr) (f : List Byte), i.wellFormed → i.legalLength → frameOfRequest i = some f → commandOfFrame f = some i

/-- With 8 replies in the reply list a complete frame is discarded unchecked with a LINK ERROR OVERRUN that carries the bytes
received and the frame's kind and tag. While a RESTART is under way, and while the framer discards after a length error, a
frame leaves no trace. A frame that continues the bytes the framer holds is taken as in HUNT; one that does not is no event. A
damaged frame is reported: a bad sum; a gap in a frame in progress, whose last byte begins a new frame; a length above 60, after
which the framer discards until the line has been silent. What is discarded without a trace is assumption 15, and what is no
event is assumption 33. -/
def Obligations.DamagedAndDiscardedFrames : Prop :=
  ((∀ (i : Instr) (kind : Byte) (h : Header) (s : State), i.request? = some (kind, h) →
     framerContinues s [kind, h.length, h.tag] = true → intake s = .overrun →
     exec i s = .next (finish (queueReport (framerHunt s)
       (.linkError .overrun (min (4 + h.length.toNat) 255) (some kind) (some h.tag))))) ∧
   (∀ (f : List Byte) (s : State), framerContinues s f = true → intake s = .overrun →
     exec (.frameOverrun f) s = .next (finish (queueReport (framerHunt s)
       (.linkError .overrun (min f.length 255) f[0]? f[2]?))) ∧
     exec (.frameSumError f) s = exec (.frameOverrun f) s) ∧
   (∀ (s : State), (s.cl.restart ≠ .none ∨ s.cl.framer = .discarding) →
     (∀ (i : Instr) (kind : Byte) (h : Header), i.request? = some (kind, h) → exec i s = .next s) ∧
     (∀ f, exec (.frameSumError f) s = .next s ∧ exec (.frameOverrun f) s = .next s) ∧
     (∀ f b, exec (.frameGap f b) s = .next s) ∧ (∀ k n, exec (.frameLengthError k n) s = .next s)) ∧
   (∀ (f : List Byte) (s : State), exec (.frameDiscardedAtRestart f) s = .next s)) ∧
  (∀ (s : State) (held : List Byte), s.cl.restart = .none → s.cl.framer = .collecting held →
     (∀ (i : Instr) (kind : Byte) (h : Header), i.request? = some (kind, h) →
       (held.take 3 = [kind, h.length, h.tag].take held.length → exec i s = exec i (framerHunt s)) ∧
       (held.take 3 ≠ [kind, h.length, h.tag].take held.length → exec i s = .next s)) ∧
     (∀ f, held.take f.length ≠ f.take held.length →
       exec (.frameSumError f) s = .next s ∧ exec (.frameOverrun f) s = .next s) ∧
     (∀ k n, held.take 2 ≠ [k, n].take held.length → exec (.frameLengthError k n) s = .next s) ∧
     (∀ f next, frameInProgress (held ++ f) = false → exec (.frameGap f next) s = .next s)) ∧
  (∀ (s : State), s.cl.restart = .none →
     (∀ f, s.cl.framer ≠ .discarding → framerContinues s f = true → s.cl.replies.length < 8 →
       exec (.frameSumError f) s =
         .next (finish (queueReport (framerHunt s) (.linkError .sum (min f.length 255) f[0]? f[2]?)))) ∧
     (∀ next, s.cl.framer = .hunt →
       exec (.frameGap [] next) s = .next { s with cl := { s.cl with framer := .collecting [next] } }) ∧
     (∀ b f next, s.cl.framer = .hunt → frameInProgress (b :: f) = true →
       exec (.frameGap (b :: f) next) s =
         .next (finish (queueReport { s with cl := { s.cl with framer := .collecting [next] } }
           (.linkError .gap (min (f.length + 1) 255) (some b) (b :: f)[2]?)))) ∧
     (∀ b bs f next, s.cl.framer = .collecting (b :: bs) → frameInProgress (b :: bs ++ f) = true →
       exec (.frameGap f next) s =
         .next (finish (queueReport { s with cl := { s.cl with framer := .collecting [next] } }
           (.linkError .gap (min (bs.length + 1 + f.length) 255) (some b) (b :: bs ++ f)[2]?)))) ∧
     (∀ k n, s.cl.framer ≠ .discarding → framerContinues s [k, n] = true →
       exec (.frameLengthError k n) s =
         .next (finish (queueReport { s with cl := { s.cl with framer := .discarding } }
           (.linkError .length 2 (some k) none)))) ∧
     (s.cl.framer = .discarding → exec .framerSilence s = .next { s with cl := { s.cl with framer := .hunt } }))

/-! ## Replies, reports and the transmitter -/

/-- A reply is placed at the tail of the reply list, behind every reply that is there already, and nothing else changes while the
transmitter is sending a frame or the warm restart is next. An IDLE transmitter then takes the head of the list if it is READY
(the new reply itself when the list was empty), otherwise the head of the report queue, otherwise nothing. A report joins the
tail of the queue while it holds fewer than 64, and otherwise is discarded and sets the lost flag; nothing else changes. When an
IDLE transmitter chooses is assumptions 9 and 14. -/
def Obligations.RepliesAndReportsAreQueued : Prop :=
  (∀ (t : State) (kind : Byte) (h : Header) (code : Code) (fields : List Byte),
    let r : Reply := { kind := kind, tag := h.tag, waiting := false, code := code, lost := t.cl.lost, fields := fields }
    (((∃ f, t.cl.tx = .sending f) ∨ t.cl.restart = .replySent) →
      replied t kind h code fields = { t with cl := { t.cl with replies := t.cl.replies ++ [r] } }) ∧
    (t.cl.tx = .idle → t.cl.restart ≠ .replySent →
      (t.cl.replies = [] →
        replied t kind h code fields = { t with cl := { t.cl with tx := .sending (.reply r) } }) ∧
      (∀ q qs, t.cl.replies = q :: qs → q.waiting = false →
        replied t kind h code fields =
          { t with cl := { t.cl with tx := .sending (.reply q), replies := qs ++ [r] } }) ∧
      (∀ q qs n ns, t.cl.replies = q :: qs → q.waiting = true → t.cl.reports = n :: ns →
        replied t kind h code fields =
          { t with cl := { t.cl with tx := .sending (.report n), reports := ns, replies := t.cl.replies ++ [r] } }) ∧
      (∀ q qs, t.cl.replies = q :: qs → q.waiting = true → t.cl.reports = [] →
        replied t kind h code fields = { t with cl := { t.cl with replies := t.cl.replies ++ [r] } })) ∧
    hasReply (replied t kind h code fields) kind h code fields ∧
    replied t kind h code fields =
      { t with cl := { t.cl with replies := (replied t kind h code fields).cl.replies,
                                 reports := (replied t kind h code fields).cl.reports,
                                 tx := (replied t kind h code fields).cl.tx } }) ∧
  (∀ (s : State) (r : Report),
    (s.cl.reports.length < 64 → queueReport s r = { s with cl := { s.cl with reports := s.cl.reports ++ [r] } }) ∧
    (64 ≤ s.cl.reports.length → queueReport s r = { s with cl := { s.cl with lost := true } }))

/-- When a frame ends, the head of the reply list is sent if it is READY, otherwise the head of the report queue, otherwise the
transmitter goes IDLE. After the RESTART reply nothing is chosen: the warm restart follows. That nothing is chosen after the
RESTART reply is assumption 14. -/
def Obligations.FrameEndChoosesTheNextFrame : Prop :=
  (∀ (s : State) (f : OutFrame), s.cl.tx = .sending f → ¬ (s.cl.restart = .decoded ∧ f.isRestartReply = true) →
    (∀ r rs, s.cl.replies = r :: rs → r.waiting = false →
      exec .transmitFrameEnd s = .next { s with cl := { s.cl with tx := .sending (.reply r), replies := rs } }) ∧
    (∀ n ns, s.cl.reports = n :: ns → (∀ r, s.cl.replies.head? = some r → r.waiting = true) →
      exec .transmitFrameEnd s = .next { s with cl := { s.cl with tx := .sending (.report n), reports := ns } }) ∧
    (s.cl.reports = [] → (∀ r, s.cl.replies.head? = some r → r.waiting = true) →
      exec .transmitFrameEnd s = .next { s with cl := { s.cl with tx := .idle } })) ∧
  (∀ (s : State) (r : Reply), s.cl.tx = .sending (.reply r) → s.cl.restart = .decoded → r.kind = 0x24 → r.code = .ok →
    exec .transmitFrameEnd s = .next { s with cl := { s.cl with tx := .idle, restart := .replySent } })

/-- STATUS gives the run mode, the lost flag as it stood, the reports queued, the replies ahead, the tick counter and the start
cause, and clears the lost flag. -/
def Obligations.StatusShowsAndClearsTheLostFlag : Prop :=
  ∀ (h : Header) (s : State), received s h 0 →
    let t := replied (framerHunt s) 0x20 h .ok
      ([s.cl.mode.code] ++ encBool s.cl.lost ++ enc8 s.cl.reports.length ++ enc8 s.cl.replies.length ++
        encTick s.sct.tick ++ [s.cl.startCause.code])
    exec (.status h) s = .next { t with cl := { t.cl with lost := false } }

/-! ## START, RESTART and the starts -/

/-- START moves the part from SETUP to RUN with the tick counter in its reply, whatever the store does, and changes no record of
another block; in RUN it is refused WRONG STATE. -/
def Obligations.StartMovesSetupToRun : Prop :=
  ∀ (h : Header) (s : State), received s h 0 →
    (s.cl.mode = .setup → exec (.start h) s =
      .next (replied { framerHunt s with cl := { (framerHunt s).cl with mode := .run } } 0x23 h .ok (encTick s.sct.tick))) ∧
    (s.cl.mode = .run → exec (.start h) s = .next (replied (framerHunt s) 0x23 h .wrongState []))

/-- RESTART completes in SETUP and in RUN. It stops the framer and places its reply behind every other, and with no save running
leaves all else as it is. During a save it abandons the save first: the store is INVALID, the last result ABANDONED, and the
WAITING reply becomes READY in its place in the list, with STORE FAILED and the lost flag as it stands; the RESTART reply stands
behind it. What `replied` makes of the list and the transmitter is `Obligations.RepliesAndReportsAreQueued`. The STORE FAILED
reply has no fields: assumption 29. -/
def Obligations.RestartStopsTheFramerAndAnySave : Prop :=
  ∀ (h : Header) (s : State), received s h 0 →
    (s.isSaving = false → exec (.restart h) s =
      .next (replied { framerHunt s with cl := { (framerHunt s).cl with restart := .decoded } } 0x24 h .ok [])) ∧
    (s.isSaving = true → exec (.restart h) s =
      .next (replied
        { framerHunt s with
          cs := { s.cs with state := .invalid, last := .abandoned }
          cl := { (framerHunt s).cl with
            restart := .decoded
            replies := s.cl.replies.map fun r =>
              if r.waiting = true then { r with waiting := false, code := .storeFailed, lost := s.cl.lost, fields := [] }
              else r } } 0x24 h .ok []))

/-- The warm restart: the counter and every table are kept, calls, orbits and pages keep their generations, and everything that
ran is gone; the part is in SETUP with the framer in HUNT, the start cause RESTART and STARTED on its way. The fields of a record
that is not live are those of assumption 4. That the transmitter has taken STARTED already, so that the report queue is empty, is
R169's choice at once, as assumption 2 reads it; R177 itself only queues the notice. -/
def Obligations.WarmRestartKeepsTablesAndGenerations : Prop :=
  ∀ (s : State), s.cl.restart = .replySent →
    ∃ t, exec .warmRestart s = .next t ∧ tables t = tables s ∧ t.cs = s.cs ∧ t.sct.tick = s.sct.tick ∧
      t.pending = s.pending ∧
      (∀ c, t.call c = Call.freed (s.call c).gen) ∧
      (∀ x, (t.station x).state = (if (s.station x).state = .out then .out else .idle) ∧ (t.station x).call = none ∧
        (t.station x).wrapupDl = none ∧ (t.station x).voicePage = none ∧ (t.station x).ringGen = (s.station x).ringGen ∧
        (t.station x).dnd = (s.station x).dnd ∧ (t.station x).cfg = (s.station x).cfg ∧
        ((s.station x).state ≠ .out → (t.station x).idleSince = s.sct.tick)) ∧
      (∀ g, (t.group g).queue = [] ∧ (t.group g).circ = 0 ∧ (t.group g).ann = AnnLive.reset ∧
        (t.group g).beacon = BeaconLive.reset ∧
        ∀ m, m ∈ (t.group g).members → m.credit = 0 ∧ m.offered = false ∧ m.loggedIn = (s.group g).cfg.autoLogin) ∧
      (∀ o, t.orbit o = Orbit.freed (s.orbit o).gen) ∧ t.ppu.freeOrder = List.finRange 32 ∧ (∀ p, (t.pickup p).ring = []) ∧
      (∀ g, (t.pageGroup g).referenced = false) ∧
      (∀ p, t.page p = Page.ended (s.page p).gen) ∧ t.pgc.queue = [] ∧ (∀ b, t.bus b = Bus.free) ∧
      (∀ k, t.channel k = Channel.stopped (s.channel k).slotA (s.channel k).slotB s.sct.tick) ∧
      (∀ m, t.fieldModule m = { s.fieldModule m with
        pendingRoute := if (s.fieldModule m).state = .present then some { a := none, b := none } else none,
        appliedRoute := none }) ∧
      (∀ z, t.zone z = { s.zone z with playing := none, stack := [], follow := none, route := none }) ∧
      (t.flc.alert = some 0 ↔ ∃ k, (s.channel k).output = true) ∧ (t.flc.alert = none ↔ ∀ k, (s.channel k).output = false) ∧
      t.flc.line = .holdoff ∧ t.flc.scanPos = 0 ∧ t.flc.scanCounter = s.flc.scanCounter ∧
      t.cl.replies = [] ∧ t.cl.reports = [] ∧ t.cl.lost = false ∧ t.cl.mode = .setup ∧ t.cl.restart = .none ∧
      t.cl.tx = .sending (.report (.started .restart s.cs.state.result)) ∧ t.cl.framer = .hunt ∧ t.cl.startCause = .restart

/-- A cold reset with a store that was never written, or whose stored sum is not the sum computed over its image, is the machine
right after reset but for the start cause and the image, which stays as it is. With a good sum it loads every table from the
image, keeps nothing else and reports VALID: calls, orbits, pages, buses, zones, modules, queues, ring lists, announcements,
beacons, referenced flags, and the run state, phase, output and claims of every channel are as after reset. How far the start
has gone is assumption 2, and the bytes that the sum is computed over are assumption 10. -/
def Obligations.ColdResetsLoadTheStore : Prop :=
  (∀ c : Cs, c.good = true ↔ c.sum = imageSum c.image) ∧
  (∀ (s : State), s.cs.good = false →
    exec .powerOn s = .next
      { State.reset with pending := s.pending, cs := { State.reset.cs with image := s.cs.image, sum := s.cs.sum } } ∧
    exec .resetPin s = .next
      { State.reset with
        pending := s.pending
        cs := { State.reset.cs with image := s.cs.image, sum := s.cs.sum }
        cl := { State.reset.cl with startCause := .pin, tx := .sending (.report (.started .pin .invalid)) } }) ∧
  (∀ (s : State) (i : Image), s.cs.good = true → s.cs.image = i →
    ∃ t, exec .powerOn s = .next t ∧
      exec .resetPin s = .next { t with
        cl := { t.cl with startCause := .pin, tx := .sending (.report (.started .pin .valid)) } } ∧
      tables t = { i with saveCount := 0 } ∧
      t.cs = { s.cs with state := .valid, count := i.saveCount, last := .none } ∧ t.sct.tick = 0 ∧
      (∀ x, (t.station x).state = (if i.stations[x].cfg.startService = .out then .out else .idle) ∧
        (t.station x).call = none ∧ (t.station x).ringGen = 1 ∧ (t.station x).idleSince = 0 ∧
        (t.station x).wrapupDl = none ∧ (t.station x).voicePage = none) ∧
      (∀ g m, m ∈ (t.group g).members → m.loggedIn = i.groups[g].cfg.autoLogin ∧ m.credit = 0 ∧ m.offered = false) ∧
      (∀ g, (t.group g).circ = 0 ∧ (t.group g).queue = [] ∧ (t.group g).ann = AnnLive.reset ∧
        (t.group g).beacon = BeaconLive.reset) ∧
      (∀ p, (t.pickup p).ring = []) ∧ (∀ g, (t.pageGroup g).referenced = false) ∧
      (∀ k, t.channel k = Channel.stopped i.slots[k].1 i.slots[k].2 0) ∧
      t.sct.calls = State.reset.sct.calls ∧ t.ppu.orbits = State.reset.ppu.orbits ∧
      t.ppu.freeOrder = State.reset.ppu.freeOrder ∧ t.pgc = State.reset.pgc ∧ t.flc.zones = State.reset.flc.zones ∧
      t.flc.line = State.reset.flc.line ∧ t.flc.scanPos = 0 ∧ t.flc.scanCounter = 0 ∧ t.flc.alert = none ∧
      (∀ m, t.fieldModule m = FieldModule.absent i.types[m]) ∧
      t.cl = { State.reset.cl with tx := .sending (.report (.started .power .valid)) } ∧ t.pending = s.pending)

/-- After a cold reset every page record is ENDED with generation 0 and no end cause, the page queue is empty, every bus is free
and SILENT, and every zone plays nothing, stacks nothing, follows nothing and has its desired route off. -/
def Obligations.ColdResetClearsPaging : Prop :=
  ∀ (c : Instr) (s : State), (c = .powerOn ∨ c = .resetPin) →
    ∃ t, exec c s = .next t ∧
      (∀ p, (t.page p).state = .ended ∧ (t.page p).gen = 0 ∧ (t.page p).endCause = none) ∧ t.pgc.queue = [] ∧
      (∀ b, (t.bus b).page = none ∧ (t.bus b).source = .silent) ∧
      (∀ z, (t.zone z).playing = none ∧ (t.zone z).stack = [] ∧ (t.zone z).follow = none ∧ (t.zone z).route = none) ∧
      (∀ r, r ∈ t.cl.reports ∨ t.cl.tx = .sending (.report r) → ∃ why v, r = .started why v) ∧ t.cl.replies = []

/-! ## Invariants -/

/-- The five invariants hold right after reset. The line and the transmitter right after reset are those of assumption 2. -/
def Obligations.InvariantsHoldAtReset : Prop :=
  LinkWithinCapacity State.reset ∧ TransmitterServesQueues State.reset ∧ ZoneServiceFollowsFault State.reset ∧
    LineIsUsed State.reset ∧ ChannelsFollowClaims State.reset

/-- No step takes the reply list above 8 replies or the report queue above 64 reports, and none leaves the transmitter IDLE
with something it could send. When an IDLE transmitter chooses is assumptions 9 and 14. -/
def Obligations.LinkStaysWithinItsLimits : Prop :=
  (∀ s t : State, LinkWithinCapacity s → step s = .next t → LinkWithinCapacity t) ∧
  (∀ s t : State, TransmitterServesQueues s → step s = .next t → TransmitterServesQueues t)

/-- Every step keeps service and latched fault of every zone in agreement. -/
def Obligations.ZoneServiceAgreesWithItsFault : Prop :=
  ∀ s t : State, ZoneServiceFollowsFault s → step s = .next t → ZoneServiceFollowsFault t

/-- No step leaves the field line without work. -/
def Obligations.FieldLineIsNeverLeftFree : Prop := ∀ s t : State, LineIsUsed s → step s = .next t → LineIsUsed t

/-- Every step keeps run state, output and phase of every alert channel in agreement with its claims. -/
def Obligations.ChannelsRunWhileClaimed : Prop :=
  ∀ s t : State, ChannelsFollowClaims s → step s = .next t → ChannelsFollowClaims t

/-- Only the configuration requests, GROUP MODE, the do-not-disturb events and the cold resets change a configured field. -/
def Obligations.OtherCommandsKeepTheTables : Prop :=
  ∀ (c : Instr) (s t : State), mayConfigure c = false → exec c s = .next t → tables t = tables s

/-! ## Run modes, the store and the tick -/

/-- The frame check: a request frame whose length its kind does not allow is refused BAD LENGTH, whatever its fields are, and a
frame whose kind byte is no request kind completes with the reply UNKNOWN REQUEST, whatever its length is. In SETUP every
operational request of the right length is refused and changes nothing else: a STATION EVENT whose station is above 383 or whose
event is none of the six with BAD VALUE, every other with NOT RUNNING. While a store save runs every configuration request is
refused and changes no table: BAD VALUE when it fails a range check of its rule, STORE BUSY when it passes them all. -/
def Obligations.RefusedRequestsChangeNothing : Prop :=
  ((∀ (i : Instr) (kind : Byte) (h : Header) (lengths : List Nat) (s : State),
     i.request? = some (kind, h) → (∀ h' k, i ≠ .unknownRequest h' k) → requestLengths kind = some lengths →
     h.length.toNat ∉ lengths → received s h h.length.toNat →
     exec i s = .next (replied (framerHunt s) kind h .badLength [])) ∧
   (∀ (h : Header) (kind : Byte) (s : State), requestLengths kind = none → received s h h.length.toNat →
     exec (.unknownRequest h kind) s = .next (replied (framerHunt s) kind h .unknownRequest []))) ∧
  (∀ (i : Instr) (kind : Byte) (h : Header) (s : State), i.request? = some (kind, h) → i.legalLength = true →
     received s h h.length.toNat →
     (isOperational i = true → s.cl.mode = .setup →
       (stationEvent? i = none → exec i s = .next (replied (framerHunt s) kind h .notRunning [])) ∧
       (∀ x e, stationEvent? i = some (x, e) →
         (x.toNat ≤ 383 → e.toNat ≤ 5 → exec i s = .next (replied (framerHunt s) kind h .notRunning [])) ∧
         (383 < x.toNat ∨ 5 < e.toNat → exec i s = .next (replied (framerHunt s) kind h .badValue [])))) ∧
     (isConfiguration i = true → s.isSaving = true →
       (configurationInRange s i = true → exec i s = .next (replied (framerHunt s) kind h .storeBusy [])) ∧
       (configurationInRange s i = false → exec i s = .next (replied (framerHunt s) kind h .badValue []))))

/-- STORE SAVE copies the tables as they stand, makes the stored sum bad and leaves its reply WAITING; while a save runs it is
refused STORE BUSY. A save that completes 1 to 40 ticks after it began with agreeing sums puts the copy with the stepped count
and the sum computed over it into the store, and makes its reply READY with OK and that count; with differing sums the store is
INVALID and the reply STORE FAILED; the tables stay. The STORE FAILED reply has no fields: assumption 29. Which value makes the
stored sum bad, and the bytes that the sum is computed over, are assumption 10. -/
def Obligations.StoreSavesAreTakenAndSettled : Prop :=
  (∀ (h : Header) (s : State), received s h 0 →
    (s.isSaving = false → exec (.storeSave h) s =
      .next (finish (placeReply
        { framerHunt s with cs := { s.cs with state := .saving (imageOf s) s.sct.tick, sum := badSum s.cs.image } }
        0x22 h.tag true .ok []))) ∧
    badSum s.cs.image ≠ imageSum s.cs.image ∧
    (s.isSaving = true → exec (.storeSave h) s = .next (replied (framerHunt s) 0x22 h .storeBusy []))) ∧
  (∀ (s : State) (copy : Image) (began : Tick), s.cs.state = .saving copy began →
    1 ≤ (s.sct.tick - began).toNat → (s.sct.tick - began).toNat ≤ 40 →
    (∃ t, exec (.saveCompletion true) s = .next t ∧
      t.cs = { state := .valid, count := s.cs.count + 1, last := .ok,
               image := { copy with saveCount := s.cs.count + 1 },
               sum := imageSum { copy with saveCount := s.cs.count + 1 } } ∧ tables t = tables s ∧
      t.cl.lost = s.cl.lost ∧ t.cl.mode = s.cl.mode ∧
      (∀ r, r ∈ s.cl.replies → r.waiting = true →
        { r with waiting := false, code := .ok, lost := s.cl.lost, fields := enc16 (s.cs.count + 1).toNat } ∈ t.cl.replies ∨
        t.cl.tx = .sending (.reply
          { r with waiting := false, code := .ok, lost := s.cl.lost, fields := enc16 (s.cs.count + 1).toNat }))) ∧
    (∃ t, exec (.saveCompletion false) s = .next t ∧ t.cs = { s.cs with state := .invalid, last := .failed } ∧
      tables t = tables s ∧ t.cl.lost = s.cl.lost ∧ t.cl.mode = s.cl.mode ∧
      (∀ r, r ∈ s.cl.replies → r.waiting = true →
        { r with waiting := false, code := .storeFailed, lost := s.cl.lost, fields := [] } ∈ t.cl.replies ∨
        t.cl.tx = .sending (.reply { r with waiting := false, code := .storeFailed, lost := s.cl.lost, fields := [] }))))

/-- STORE QUERY gives the store state, the save count, the last save result, and while SAVING the ticks elapsed since the save
began; it changes no state. The bytes of the elapsed ticks are assumption 19. -/
def Obligations.StoreQueryGivesTheStore : Prop :=
  ∀ (h : Header) (s : State), received s h 0 →
    (∀ copy began, s.cs.state = .saving copy began → exec (.storeQuery h) s =
      .next (replied (framerHunt s) 0x1F h .ok
        ([2] ++ enc16 s.cs.count.toNat ++ [s.cs.last.code] ++ enc16 (s.sct.tick - began).toNat))) ∧
    (s.cs.state = .valid → exec (.storeQuery h) s =
      .next (replied (framerHunt s) 0x1F h .ok ([0] ++ enc16 s.cs.count.toNat ++ [s.cs.last.code] ++ [0xFF, 0xFF]))) ∧
    (s.cs.state = .invalid → exec (.storeQuery h) s =
      .next (replied (framerHunt s) 0x1F h .ok ([1] ++ enc16 s.cs.count.toNat ++ [s.cs.last.code] ++ [0xFF, 0xFF])))

/-- The tick counter advances by one, wraps, and nothing else changes. A RUNNING channel whose step tick is not the counter's
value advances: at the period's end the phase is 0, a pending slot becomes active, and the output is on when the now-active
on-ticks are above 0; below it the phase rises by one, and the output is on while it is below the on-ticks. An output change
becomes the pending alert broadcast. A STOPPED channel, and one already stepped at this count, is not changed. -/
def Obligations.TheCounterAndTheCadencesAdvance : Prop :=
  (∀ s : State, exec .tickCounterAdvance s = .next { s with sct := { s.sct with tick := s.sct.tick + 1 } }) ∧
  (∀ (s : State) (k : ChannelId), ((s.channel k).running = false ∨ (s.channel k).stepTick = s.sct.tick) →
    exec (.cadenceAdvance k) s = .next s) ∧
  (∀ (s : State) (k : ChannelId), (s.channel k).running = true → (s.channel k).stepTick ≠ s.sct.tick →
    ∃ t, exec (.cadenceAdvance k) s = .next t ∧ (∀ j, j ≠ k → t.channel j = s.channel j) ∧
      ((s.channel k).cadence.period ≤ (s.channel k).phase + 1 → (s.channel k).pending = false →
        t.channel k = { s.channel k with
          phase := 0, stepTick := s.sct.tick, output := decide (0 < ((s.channel k).slot (s.channel k).active).on) }) ∧
      ((s.channel k).cadence.period ≤ (s.channel k).phase + 1 → (s.channel k).pending = true →
        t.channel k = { s.channel k with
          phase := 0, stepTick := s.sct.tick, active := (s.channel k).active.other, pending := false,
          output := decide (0 < ((s.channel k).slot (s.channel k).active.other).on) }) ∧
      ((s.channel k).phase + 1 < (s.channel k).cadence.period →
        t.channel k = { s.channel k with
          phase := (s.channel k).phase + 1, stepTick := s.sct.tick,
          output := decide ((s.channel k).phase + 1 < (s.channel k).cadence.on) }) ∧
      ((t.channel k).output = (s.channel k).output → t.flc = s.flc) ∧
      ((t.channel k).output ≠ (s.channel k).output → t.flc = { s.flc with alert := some (outputWord t) }) ∧
      t.sct = s.sct ∧ t.de = s.de ∧ t.ppu = s.ppu ∧ t.pdir = s.pdir ∧ t.pgc = s.pgc ∧ t.cs = s.cs)

/-! ## Configuration requests -/

/-- STATION SET stores the configured fields, and nothing else changes, unless the station is RINGING and its pickup group
changes: then its call leaves the old ring list, where no other of its stations stays, and enters the new one. -/
def Obligations.StationSetStoresTheFields : Prop :=
  ∀ (h : Header) (station : Half) (cls pickup coverage service : Byte) (label : Half) (s : State) (x : StationId)
    (v : StationCfg), received s h 8 → readStation station = some x →
    readStationCfg cls pickup coverage service label = some v → s.isSaving = false →
    let t := (framerHunt s).modStation x fun r => { r with cfg := v }
    ((s.station x).state ≠ .ringing ∨ (s.station x).cfg.pickup = v.pickup →
      exec (.stationSet h station cls pickup coverage service label) s = .next (replied t 0x01 h .ok [])) ∧
    (∀ c, (s.station x).state = .ringing → (s.station x).call = some c → (s.station x).cfg.pickup ≠ v.pickup →
      exec (.stationSet h station cls pickup coverage service label) s =
        .next (replied
          (let u := match (s.station x).cfg.pickup with
            | some p => if (s.call c).ringing.any (fun y => (t.station y).cfg.pickup == some p) then t
                        else t.modPickup p fun r => { r with ring := r.ring.filter fun e => e.call != c }
            | none => t
          match v.pickup with
          | some p => u.modPickup p fun r =>
              if r.ring.any (fun e => e.call == c) then r
              else { r with ring := insertBy (ringPrecedes s.sct.tick) { call := c, start := s.sct.tick } r.ring }
          | none => u) 0x01 h .ok []))

/-- GROUP SET: a WRITE creates an UNUSED group, keeps the live state of a group whose method stays, and clears credits, offered
flags and circular position when the method changes; a DELETE gives an idle, empty group the defaults. -/
def Obligations.GroupSetWritesOrDeletes : Prop :=
  ∀ (h : Header) (b : GroupSetBody) (s : State) (g : GroupId), received s h 14 → readFin 64 b.group.toNat = some g →
    s.isSaving = false →
    (∀ v, b.action = 0 → readGroupCfg g b = some v → (s.group g).queue.length ≤ v.queueLimit →
      ((s.group g).service = .unused → exec (.groupSet h b) s =
        .next (replied ((framerHunt s).modGroup g fun r =>
          { r with service := .inService, cfg := v, members := [], queue := [], circ := 0 }) 0x02 h .ok [1])) ∧
      ((s.group g).service ≠ .unused → v.method = (s.group g).cfg.method → exec (.groupSet h b) s =
        .next (replied ((framerHunt s).modGroup g fun r => { r with cfg := v }) 0x02 h .ok [(s.group g).service.code])) ∧
      ((s.group g).service ≠ .unused → v.method ≠ (s.group g).cfg.method → exec (.groupSet h b) s =
        .next (replied ((framerHunt s).modGroup g fun r =>
          { r with cfg := v, circ := 0, members := r.members.map fun m => { m with credit := 0, offered := false } })
          0x02 h .ok [(s.group g).service.code]))) ∧
    (∀ v, b.action = 0 → readGroupCfg g b = some v → v.queueLimit < (s.group g).queue.length →
      exec (.groupSet h b) s = .next (replied (framerHunt s) 0x02 h .inUse [])) ∧
    (b.action = 1 → (s.group g).service ≠ .unused → (s.group g).members = [] →
      (∀ c, (s.call c).state = .free ∨ (s.call c).current ≠ some g) → (s.group g).ann.state = .idle →
      (s.group g).beacon.state = .off →
      exec (.groupSet h b) s = .next (replied ((framerHunt s).modGroup g fun _ => Group.reset) 0x02 h .ok [0])) ∧
    (b.action = 1 → ((s.group g).members ≠ [] ∨ (∃ c, (s.call c).state ≠ .free ∧ (s.call c).current = some g) ∨
        (s.group g).ann.state ≠ .idle ∨ (s.group g).beacon.state ≠ .off) →
      exec (.groupSet h b) s = .next (replied (framerHunt s) 0x02 h .inUse []))

/-- MEMBER ADD inserts the entry at its list position with the group's auto-login as its login flag, clears every credit and
offered flag, moves the circular position with its member, and inserts the group at its preference position; the station is
offered last when the entry is logged in. MEMBER REMOVE takes the entry and the membership out, with the bookkeeping of a
membership change. A station that does not ring for the group is then offered; one that does leaves the call first, without
being tried, and the call advances if none rings. The circular position moves with its member, back one place when the member
at it goes. That a removed station is offered is assumption 26; that the ring of a RECALLING GROUP call is none for the group,
so that the recall rings on, is the model's choice, assumption 34. -/
def Obligations.MemberEntriesComeAndGo : Prop :=
  (∀ (h : Header) (group : Byte) (station : Half) (weight listPos prefPos : Byte) (s : State) (g : GroupId) (x : StationId)
     (w pos pref : Nat), received s h 6 → readFin 64 group.toNat = some g → readStation station = some x →
     readRange 1 8 weight.toNat = some w → readPosition 31 (s.group g).members.length listPos = some pos →
     readPosition 3 (s.station x).memberships.length prefPos = some pref → (s.group g).service ≠ .unused →
     s.isSaving = false → entryOf (s.group g) x = none → (s.group g).members.length < 32 →
     (s.station x).memberships.length < 4 → poolFree s ≠ 0 →
     let t := ((framerHunt s).modGroup g fun r =>
         { r with
           members := (insertAt { station := x, weight := w, loggedIn := r.cfg.autoLogin, offered := false, credit := 0 } pos
             r.members).map fun m => { m with credit := 0, offered := false }
           circ := if r.members.length = 0 then 0 else if pos ≤ r.circ then r.circ + 1 else r.circ }).modStation x fun r =>
         { r with memberships := insertAt g pref r.memberships }
     exec (.memberAdd h group station weight listPos prefPos) s =
       .next (replied (if (s.group g).cfg.autoLogin then offer t x else t) 0x03 h .ok (enc8 pos ++ enc16 (poolFree t)))) ∧
  (∀ (h : Header) (group : Byte) (station : Half) (s : State) (g : GroupId) (x : StationId), received s h 3 →
     readFin 64 group.toNat = some g → readStation station = some x → (s.group g).service ≠ .unused →
     s.isSaving = false → entryOf (s.group g) x ≠ none →
     (ringsForGroup s x g = none →
       exec (.memberRemove h group station) s =
         .next (replied (offer (dropMember (framerHunt s) g x) x) 0x04 h .ok
           (enc16 (poolFree (offer (dropMember (framerHunt s) g x) x))))) ∧
     (∀ c, ringsForGroup s x g = some c →
       let t := offer (leaveWithoutTried (dropMember (ringLeave (framerHunt s) c .idle x) g x) c g) x
       exec (.memberRemove h group station) s = .next (replied t 0x04 h .ok (enc16 (poolFree t)))) ∧
     ((dropMember s g x).group g).queue = (s.group g).queue ∧
     ((dropMember s g x).group g).members.length + 1 = (s.group g).members.length ∧
     (∀ i, (s.group g).members.findIdx? (fun m => m.station == x) = some i →
       let p := (s.group g).circ
       let left := (s.group g).members.length - 1
       (i < p → 0 < left → ((dropMember s g x).group g).circ = p - 1) ∧
       (i = p → 0 < p → 0 < left → ((dropMember s g x).group g).circ = p - 1) ∧
       (i = p → p = 0 → 0 < left → ((dropMember s g x).group g).circ = left - 1) ∧
       (p < i → ((dropMember s g x).group g).circ = p) ∧
       (left = 0 → ((dropMember s g x).group g).circ = 0)) ∧
     (∀ m, m ∈ ((dropMember s g x).group g).members → m.credit = 0 ∧ m.offered = false) ∧
     ((dropMember s g x).station x).memberships = (s.station x).memberships.erase g ∧
     (∀ f, f ≠ g → (dropMember s g x).group f = s.group f) ∧ (∀ y, y ≠ x → (dropMember s g x).station y = s.station y))

/-- ANNOUNCE SET stores the parameters; with a page group of none an ARMED announcement becomes IDLE, counter 0, no delay. BEACON
SET stores the parameters. While the beacon is OFF it turns ON only when the zone is newly set and calls wait; in ON or DEBOUNCE a
zone of none turns it OFF with its claim dropped, and a zone on the same channel keeps the claim. That a channel which a dropped
claim stops keeps its step tick is assumption 39. -/
def Obligations.AnnounceAndBeaconParametersAreStored : Prop :=
  (∀ (h : Header) (b : AnnounceSetBody) (s : State) (g : GroupId) (p : AnnParams), received s h 11 →
    readFin 64 b.group.toNat = some g → readAnnounce b = some p → (s.group g).service ≠ .unused → s.isSaving = false →
    (p.pageGroup ≠ none ∨ (s.group g).ann.state ≠ .armed → exec (.announceSet h b) s =
      .next (replied ((framerHunt s).modGroup g fun r => { r with annP := p }) 0x05 h .ok [(s.group g).ann.state.code])) ∧
    (p.pageGroup = none → (s.group g).ann.state = .armed → exec (.announceSet h b) s =
      .next (replied ((framerHunt s).modGroup g fun r =>
        { r with annP := p, ann := { r.ann with state := .idle, counter := 0, delayDl := none } }) 0x05 h .ok [0]))) ∧
  (∀ (h : Header) (group zone channel : Byte) (debounce : Half) (s : State) (g : GroupId) (p : BeaconParams),
    received s h 5 → readFin 64 group.toNat = some g → readBeacon zone channel debounce = some p →
    (s.group g).service ≠ .unused → s.isSaving = false →
    let old := (s.group g).beaconP
    let t := (framerHunt s).modGroup g fun r => { r with beaconP := p }
    ((s.group g).beacon.state = .off → (p.zone = none ∨ old.zone ≠ none ∨ (s.group g).queue = []) →
      exec (.beaconSet h group zone channel debounce) s = .next (replied t 0x06 h .ok [0])) ∧
    (∀ z, (s.group g).beacon.state = .off → p.zone = some z → old.zone = none → (s.group g).queue ≠ [] →
      exec (.beaconSet h group zone channel debounce) s =
        .next (replied (refollow (placeClaim (t.modGroup g fun r => { r with beacon := { state := .on, dl := none } })
          p.channel .group) z) 0x06 h .ok [1])) ∧
    ((s.group g).beacon.state ≠ .off → p.zone = none →
      exec (.beaconSet h group zone channel debounce) s =
        .next (replied (refollowOpt (dropClaim (t.modGroup g fun r => { r with beacon := { state := .off, dl := none } })
          old.channel .group) old.zone) 0x06 h .ok [0])) ∧
    (∀ z, (s.group g).beacon.state ≠ .off → p.zone = some z → p.channel = old.channel →
      exec (.beaconSet h group zone channel debounce) s =
        .next (replied (refollowPair t old.zone (some z)) 0x06 h .ok [(s.group g).beacon.state.code])) ∧
    (∀ z, (s.group g).beacon.state ≠ .off → p.zone = some z → p.channel ≠ old.channel →
      exec (.beaconSet h group zone channel debounce) s =
        .next (replied (refollowPair (dropClaim (placeClaim t p.channel .group) old.channel .group) old.zone (some z))
          0x06 h .ok [(s.group g).beacon.state.code])))

/-- PICKUP GROUP SET, CLASS SET, DIRECTORY SET, ENTRY SET and PAGE GROUP SET write the one record they name and nothing else.
Emptying an entry that live pages rest on is refused IN USE. That this refusal carries no live-page count is the model's choice,
assumption 42. -/
def Obligations.TableRequestsWriteOneRecord : Prop :=
  ∀ (h : Header) (s : State), s.isSaving = false →
    (∀ group count l0 l1 l2 p ls, received s h 5 → readFin 48 group.toNat = some p →
      readLinks count l0 l1 l2 = some ls → ¬ p ∈ ls → ls.Nodup →
      exec (.pickupGroupSet h group count l0 l1 l2) s =
        .next (replied ((framerHunt s).modPickup p fun r => { r with links := ls }) 0x07 h .ok [])) ∧
    (∀ b k v, received s h 8 → readFin 4 b.cls.toNat = some k → readClass b = some v →
      exec (.classSet h b) s = .next (replied ((framerHunt s).modClass k fun _ => v) 0x08 h .ok [])) ∧
    (∀ directory base length d, received s h 3 → readFin 8 directory.toNat = some d → base.toNat ≤ 127 →
      base.toNat + length.toNat ≤ 128 →
      exec (.directorySet h directory base length) s =
        .next (replied ((framerHunt s).modDirectory d fun _ => { base := base.toNat, length := length.toNat })
          0x09 h .ok [])) ∧
    (∀ b e v, received s h 12 → readFin 128 b.entry.toNat = some e → readEntry b = some v →
      (v.pageGroup ≠ none ∨ liveOnEntry s e = 0 → exec (.entrySet h b) s =
        .next (replied ((framerHunt s).modEntry e fun _ => v) 0x0A h .ok (enc8 (liveOnEntry s e)))) ∧
      (v.pageGroup = none → liveOnEntry s e ≠ 0 → exec (.entrySet h b) s =
        .next (replied (framerHunt s) 0x0A h .inUse []))) ∧
    (∀ b g v, received s h 15 → readFin 64 b.pageGroup.toNat = some g → readPageGroup g b = some v →
      (v.kind ≠ .empty ∨ liveOnGroup s g = 0 → exec (.pageGroupSet h b) s =
        .next (replied ((framerHunt s).modPageGroup g fun r => { r with cfg := v }) 0x0B h .ok (enc8 (liveOnGroup s g)))) ∧
      (v.kind = .empty → liveOnGroup s g ≠ 0 → exec (.pageGroupSet h b) s =
        .next (replied (framerHunt s) 0x0B h .inUse [])))

/-- CADENCE SET writes one slot: the inactive one becomes pending; the active one of a STOPPED channel is only stored; of a RUNNING
channel it ends the period when the phase is at or above the new period, and otherwise sets the output by the phase. An output
change becomes the pending alert broadcast. The byte of the run state in the reply is the model's choice, assumption 38. -/
def Obligations.CadenceSetWritesOneSlot : Prop :=
  ∀ (h : Header) (channel slot : Byte) (period onTicks : Half) (s : State) (k : ChannelId) (sl : Slot) (v : Cadence),
    received s h 6 → readFin 16 channel.toNat = some k → readSlot slot = some sl → readCadence period onTicks = some v →
    s.isSaving = false →
    ∃ t, exec (.cadenceSet h channel slot period onTicks) s = .next t ∧
      hasReply t 0x0C h .ok ([(t.channel k).active.code] ++ encBool (t.channel k).pending ++
        encBool (t.channel k).running ++ encBool (t.channel k).output) ∧
      (∀ j, j ≠ k → t.channel j = s.channel j) ∧ (t.channel k).slot sl = v ∧
      (t.channel k).slot sl.other = (s.channel k).slot sl.other ∧ (t.channel k).claims = (s.channel k).claims ∧
      (t.channel k).running = (s.channel k).running ∧
      (sl ≠ (s.channel k).active → (t.channel k).pending = true ∧ (t.channel k).active = (s.channel k).active ∧
        (t.channel k).phase = (s.channel k).phase ∧ (t.channel k).stepTick = (s.channel k).stepTick ∧
        (t.channel k).output = (s.channel k).output) ∧
      (sl = (s.channel k).active → (s.channel k).running = false →
        (t.channel k).pending = (s.channel k).pending ∧ (t.channel k).active = (s.channel k).active ∧
        (t.channel k).phase = (s.channel k).phase ∧ (t.channel k).stepTick = (s.channel k).stepTick ∧
        (t.channel k).output = (s.channel k).output) ∧
      (sl = (s.channel k).active → (s.channel k).running = true → (s.channel k).phase < v.period →
        (t.channel k).pending = (s.channel k).pending ∧ (t.channel k).active = (s.channel k).active ∧
        (t.channel k).phase = (s.channel k).phase ∧ (t.channel k).stepTick = (s.channel k).stepTick ∧
        (t.channel k).output = decide ((s.channel k).phase < v.on)) ∧
      (sl = (s.channel k).active → (s.channel k).running = true → v.period ≤ (s.channel k).phase →
        (t.channel k).pending = false ∧ (t.channel k).phase = 0 ∧ (t.channel k).stepTick = s.sct.tick ∧
        (t.channel k).active = (if (s.channel k).pending then sl.other else sl) ∧
        (t.channel k).output = decide (0 < (t.channel k).cadence.on)) ∧
      ((t.channel k).output = (s.channel k).output → t.flc.alert = s.flc.alert) ∧
      ((t.channel k).output ≠ (s.channel k).output → t.flc.alert = some (outputWord t)) ∧
      t.sct = s.sct ∧ t.de = s.de ∧ t.ppu = s.ppu ∧ t.pdir = s.pdir ∧ t.pgc = s.pgc ∧ t.cs = s.cs ∧
      t.flc.modules = s.flc.modules ∧ t.flc.zones = s.flc.zones ∧ t.flc.line = s.flc.line

/-- MODULE SET: the same type changes nothing; a new type of an ABSENT or MISMATCH module is only stored; a PRESENT or MISSING
module becomes MISMATCH, its routes go, and both its zones get fault TYPE MISMATCH and kind NONE. -/
def Obligations.ModuleSetChangesTheType : Prop :=
  ∀ (h : Header) (moduleNo kind : Byte) (s : State) (m : ModuleId) (ty : ModuleType), received s h 2 →
    readFin 24 moduleNo.toNat = some m → readModuleType kind = some ty → s.isSaving = false →
    ((s.fieldModule m).configured = ty → exec (.moduleSet h moduleNo kind) s =
      .next (replied (framerHunt s) 0x0D h .ok [(s.fieldModule m).state.code])) ∧
    ((s.fieldModule m).configured ≠ ty → ((s.fieldModule m).state = .absent ∨ (s.fieldModule m).state = .mismatch) →
      exec (.moduleSet h moduleNo kind) s =
        .next (replied ((framerHunt s).modModule m fun d => { d with configured := ty }) 0x0D h .ok
          [(s.fieldModule m).state.code])) ∧
    ((s.fieldModule m).configured ≠ ty → ((s.fieldModule m).state = .present ∨ (s.fieldModule m).state = .missing) →
      ∃ t, exec (.moduleSet h moduleNo kind) s = .next t ∧ hasReply t 0x0D h .ok [3] ∧
        t.fieldModule m = { s.fieldModule m with
          configured := ty, state := .mismatch, pendingRoute := none, appliedRoute := none } ∧
        (∀ z, z = zoneA m ∨ z = zoneB m → (t.zone z).kind = .none ∧ (t.zone z).fault = some .typeMismatch ∧
          (t.zone z).service = (if (s.zone z).service = .outOfService then .outOfService else .faulted) ∧
          (t.zone z).faultGen = (if (s.zone z).fault = some .typeMismatch then (s.zone z).faultGen
            else nextGen (s.zone z).faultGen)) ∧
        (∀ z, z ≠ zoneA m → z ≠ zoneB m → (t.zone z).kind = (s.zone z).kind ∧ (t.zone z).service = (s.zone z).service ∧
          (t.zone z).fault = (s.zone z).fault ∧ (t.zone z).faultGen = (s.zone z).faultGen))

/-! ## Queries -/

/-- DIRECTORY QUERY and ENTRY QUERY return their record, refuse a number out of range, and change no state, in either run
mode. -/
def Obligations.DirectoryAndEntryQueriesReadTheirRecords : Prop :=
  ∀ (h : Header) (n : Byte) (s : State), received s h 1 →
    (∀ d, readFin 8 n.toNat = some d → exec (.directoryQuery h n) s =
      .next (replied (framerHunt s) 0x16 h .ok (enc8 (s.directory d).base ++ enc8 (s.directory d).length))) ∧
    (8 ≤ n.toNat → exec (.directoryQuery h n) s = .next (replied (framerHunt s) 0x16 h .badValue [])) ∧
    (∀ e, readFin 128 n.toNat = some e → exec (.entryQuery h n) s =
      .next (replied (framerHunt s) 0x17 h .ok
        (encOpt (s.entry e).pageGroup ++ enc8 (s.entry e).priority.val ++ [(s.entry e).sourceKind.code] ++
          enc8 (s.entry e).preludeChannel.val ++ enc8 (s.entry e).preludeTone.val ++ enc16 (s.entry e).preludeTicks ++
          enc16 (s.entry e).maxDuration ++ enc16 (s.entry e).waitTicks ++ encBool (s.entry e).pageGroup.isSome ++
          enc8 (liveOnEntry s e)))) ∧
    (128 ≤ n.toNat → exec (.entryQuery h n) s = .next (replied (framerHunt s) 0x17 h .badValue []))

/-- STATION, ORBIT, CLASS, BUS, ALERT, MODULE and ZONE QUERY return their record and change no state; PAGE GROUP QUERY returns
its entry with the referenced flag as it stood, and clears that flag alone. Four points of these replies are the model's choice:
the places of absent fields (assumption 11), the byte of a channel's run state (38), the absent code of a zone's latched fault (41),
and the zone bytes of an EMPTY or INDIRECT page group (43). -/
def Obligations.ShortQueriesReadTheirRecords : Prop :=
  ∀ (h : Header) (s : State),
    (∀ station x, received s h 2 → readStation station = some x →
      exec (.stationQuery h station) s = .next (replied (framerHunt s) 0x10 h .ok (stationFields s x))) ∧
    (∀ n, received s h 1 →
      (∀ o, readFin 32 n.toNat = some o →
        exec (.orbitQuery h n) s = .next (replied (framerHunt s) 0x14 h .ok (orbitFields s o))) ∧
      (∀ k, readFin 4 n.toNat = some k →
        exec (.classQuery h n) s = .next (replied (framerHunt s) 0x15 h .ok (s.cls k).fields)) ∧
      (∀ b, readFin 8 n.toNat = some b →
        exec (.busQuery h n) s = .next (replied (framerHunt s) 0x1A h .ok
          (pageRef s (s.bus b).page ++ encBusSource (s.bus b).source))) ∧
      (∀ k, readFin 16 n.toNat = some k →
        exec (.alertQuery h n) s = .next (replied (framerHunt s) 0x1B h .ok (s.channel k).fields)) ∧
      (∀ m, readFin 24 n.toNat = some m →
        exec (.moduleQuery h n) s = .next (replied (framerHunt s) 0x1C h .ok (moduleFields s m))) ∧
      (∀ z, readFin 48 n.toNat = some z →
        exec (.zoneQuery h n) s = .next (replied (framerHunt s) 0x1D h .ok (zoneFields s z))) ∧
      (∀ g, readFin 64 n.toNat = some g →
        exec (.pageGroupQuery h n) s =
          .next (replied ((framerHunt s).modPageGroup g fun p => { p with referenced := false }) 0x18 h .ok
            ((s.pageGroup g).cfg.fields ++ enc8 (liveOnGroup s g) ++ encBool (s.pageGroup g).referenced))))

/-- CALL, GROUP, PICKUP GROUP and PAGE QUERY return the part they name of their record, part 0 when no part byte comes, refuse
a part past the last, and change no state. Cut into parts, a reply's fields come back whole in order, and no part holds more
than 55 bytes when no field does. How the parts are cut is assumption 12, and what a record without content shows is
assumptions 11 and 17. The bytes that PAGE QUERY gives for the prelude of a live TONE page, which has none, and for an absent end
cause are the model's choice, assumptions 37 and 41. -/
def Obligations.LongQueriesReadTheirParts : Prop :=
  (∀ (h : Header) (n part : Byte) (s : State) (k : Nat),
    (received s h 1 ∧ k = 0) ∨ (received s h 2 ∧ k = part.toNat) →
    (∀ c, readFin 192 n.toNat = some c →
      (∀ bs, partFields (callQueryFields s c) k = some bs →
        exec (.callQuery h n part) s = .next (replied (framerHunt s) 0x11 h .ok bs)) ∧
      (partFields (callQueryFields s c) k = none →
        exec (.callQuery h n part) s = .next (replied (framerHunt s) 0x11 h .badValue []))) ∧
    (∀ g, readFin 64 n.toNat = some g →
      (∀ bs, partFields (groupQueryFields s g) k = some bs →
        exec (.groupQuery h n part) s = .next (replied (framerHunt s) 0x12 h .ok bs)) ∧
      (partFields (groupQueryFields s g) k = none →
        exec (.groupQuery h n part) s = .next (replied (framerHunt s) 0x12 h .badValue []))) ∧
    (∀ p, readFin 48 n.toNat = some p →
      (∀ bs, partFields (pickupGroupFields s p) k = some bs →
        exec (.pickupGroupQuery h n part) s = .next (replied (framerHunt s) 0x13 h .ok bs)) ∧
      (partFields (pickupGroupFields s p) k = none →
        exec (.pickupGroupQuery h n part) s = .next (replied (framerHunt s) 0x13 h .badValue []))) ∧
    (∀ p, readFin 16 n.toNat = some p →
      (∀ bs, partFields (pageFields s p) k = some bs →
        exec (.pageQuery h n part) s = .next (replied (framerHunt s) 0x19 h .ok bs)) ∧
      (partFields (pageFields s p) k = none →
        exec (.pageQuery h n part) s = .next (replied (framerHunt s) 0x19 h .badValue [])))) ∧
  (∀ fields : List (List Byte), (∀ f, f ∈ fields → f.length ≤ 55) →
    (∀ p, p ∈ packParts [] fields → p.length ≤ 55) ∧ (packParts [] fields).flatten = fields.flatten)

/-! ## Stations and calls -/

/-- OFF HOOK makes an IDLE or WRAPUP station BUSY with its wrap-up deadline cleared, answers the call of a RINGING station, and
is refused WRONG STATE in BUSY, TALKING and OUT. ON HOOK frees the call of a TALKING station, with the wrap-up of a GROUP
call's current group or none for a DIRECT call; takes a BUSY station to IDLE, ending its voice page RELEASED, and offers it;
and is refused WRONG STATE otherwise. The bytes that name no answered call are assumption 32. -/
def Obligations.HookEventsMoveTheStation : Prop :=
  (∀ (h : Header) (station : Half) (s : State) (x : StationId), received s h 3 → readStation station = some x →
     s.cl.mode = .run →
     ((s.station x).state = .idle →
       let t := (framerHunt s).modStation x fun r => { r with state := .busy }
       exec (.offHook h station 0) s = .next (replied t 0x30 h .ok (eventFields t x none))) ∧
     ((s.station x).state = .wrapup →
       let t := (framerHunt s).modStation x fun r => { r with state := .busy, wrapupDl := none }
       exec (.offHook h station 0) s = .next (replied t 0x30 h .ok (eventFields t x none))) ∧
     (∀ c, (s.station x).state = .ringing → (s.station x).call = some c →
       exec (.offHook h station 0) s =
         .next (replied (answerCall (framerHunt s) c x) 0x30 h .ok
           (eventFields (answerCall (framerHunt s) c x) x (some c)))) ∧
     ((s.station x).state = .busy ∨ (s.station x).state = .talking ∨ (s.station x).state = .out →
       exec (.offHook h station 0) s = .next (replied (framerHunt s) 0x30 h .wrongState []))) ∧
  (∀ (h : Header) (station : Half) (s : State) (x : StationId), received s h 3 → readStation station = some x →
     s.cl.mode = .run →
     (∀ c g, (s.station x).state = .talking → (s.station x).call = some c → (s.call c).kind = .group →
       (s.call c).current = some g →
       let t := freeCall (framerHunt s) c (.wrapup (s.group g).cfg.wrapup)
       exec (.onHook h station 1) s = .next (replied t 0x30 h .ok (eventFields t x none))) ∧
     (∀ c, (s.station x).state = .talking → (s.station x).call = some c → (s.call c).kind = .direct →
       let t := freeCall (framerHunt s) c .idle
       exec (.onHook h station 1) s = .next (replied t 0x30 h .ok (eventFields t x none))) ∧
     ((s.station x).state = .busy → (s.station x).voicePage = none →
       let t := offer ((framerHunt s).modStation x fun r =>
         { r with state := .idle, call := none, wrapupDl := none, idleSince := s.sct.tick }) x
       exec (.onHook h station 1) s = .next (replied t 0x30 h .ok (eventFields t x none))) ∧
     (∀ p, (s.station x).state = .busy → (s.station x).voicePage = some p →
       let t := offer (endPage ((framerHunt s).modStation x fun r =>
         { r with state := .idle, call := none, wrapupDl := none, idleSince := s.sct.tick }) p .released) x
       exec (.onHook h station 1) s = .next (replied t 0x30 h .ok (eventFields t x none))) ∧
     ((s.station x).state = .ringing ∨ (s.station x).state = .idle ∨ (s.station x).state = .wrapup ∨
         (s.station x).state = .out →
       exec (.onHook h station 1) s = .next (replied (framerHunt s) 0x30 h .wrongState [])))

/-- The answer by the only ringing station connects its call: the call is CONNECTED with the station answering, its sets are
empty, its ring and overflow deadlines cleared, it stands in no ring list, and one CONNECT directive is queued. A call that was
RECALLING leaves its orbit. Taking a call that is not queued (a parked one) connects it to the station, when no station rings
for it, it holds no announcement, the station has no voice page and the report queue has room: it is CONNECTED, the station
TALKING, its orbit (if it has one) is released, and one CONNECT is queued last.
Freeing a CONNECTED call that holds no orbit and no announcement: the call is FREE with its generation kept, and its answering
station, when do-not-disturb keeps it from new work, is in WRAPUP with the deadline after the wrap-up ticks, or IDLE with its
stamp taken when they are 0. What a FREE record holds in the fields that have no absent form is the model's choice, assumption
4. -/
def Obligations.CallsAreAnsweredTakenAndFreed : Prop :=
  (∀ (s : State) (c : CallId) (x : StationId), (s.call c).ringing = [x] →
     let t := answerCall s c x
     (t.call c).state = .connected ∧ (t.call c).answering = some x ∧ (t.call c).ringing = [] ∧ (t.call c).tried = [] ∧
     (t.call c).ringDl = none ∧ (t.call c).overflowDl = none ∧ (t.call c).gen = (s.call c).gen ∧
     t.station x = { s.station x with state := .talking, call := some c } ∧
     (∀ y, y ≠ x → t.station y = s.station y) ∧ (∀ d, d ≠ c → t.call d = s.call d) ∧
     (∀ p e, e ∈ (t.pickup p).ring → e.call ≠ c) ∧
     (s.cl.reports.length < 64 → t.cl.reports = s.cl.reports ++
       [.connect c (s.call c).gen x (s.station x).cfg.label (s.call c).hostRef]) ∧
     ((s.call c).state ≠ .recalling → t.ppu.orbits = s.ppu.orbits ∧ t.ppu.freeOrder = s.ppu.freeOrder) ∧
     (∀ o, (s.call c).state = .recalling → (s.call c).orbit = some o →
       t.orbit o = Orbit.freed (s.orbit o).gen ∧ t.ppu.freeOrder = s.ppu.freeOrder ++ [o] ∧ (t.call c).orbit = none) ∧
     t.de = s.de ∧ t.pdir = s.pdir ∧ t.pgc = s.pgc ∧ t.ag = s.ag ∧ t.flc = s.flc ∧ t.cs = s.cs) ∧
  (∀ (s : State) (c : CallId) (x : StationId), (s.call c).ringing = [] → (s.call c).annPage = none →
     (s.station x).voicePage = none → (s.call c).state ≠ .queued → s.cl.reports.length < 64 →
     let t := takeCall s c x
     (t.call c).state = .connected ∧ (t.call c).answering = some x ∧ (t.call c).orbit = none ∧ (t.call c).tried = [] ∧
     (t.call c).gen = (s.call c).gen ∧ (∀ d, d ≠ c → t.call d = s.call d) ∧
     t.station x = { s.station x with state := .talking, call := some c } ∧ (∀ y, y ≠ x → t.station y = s.station y) ∧
     (∀ o, (s.call c).orbit = some o → t.orbit o = Orbit.freed (s.orbit o).gen ∧
       t.ppu.freeOrder = s.ppu.freeOrder ++ [o]) ∧
     t.cl.reports = s.cl.reports ++ [.connect c (s.call c).gen x (s.station x).cfg.label (s.call c).hostRef] ∧
     t.de = s.de ∧ t.pdir = s.pdir ∧ t.pgc = s.pgc ∧ t.ag = s.ag ∧ t.flc = s.flc ∧ t.cs = s.cs) ∧
  (∀ (s : State) (c : CallId) (x : StationId) (n : Nat), (s.call c).state = .connected → (s.call c).answering = some x →
     (s.call c).ringing = [] → (s.call c).orbit = none → (s.call c).annPage = none → (s.station x).dnd = true →
     let t := freeCall s c (.wrapup n)
     t.call c = Call.freed (s.call c).gen ∧ (∀ d, d ≠ c → t.call d = s.call d) ∧
     (0 < n → t.station x = { s.station x with
       state := .wrapup, call := none, wrapupDl := some (s.sct.tick + BitVec.ofNat 32 n) }) ∧
     (n = 0 → t.station x = { s.station x with state := .idle, call := none, wrapupDl := none, idleSince := s.sct.tick }) ∧
     (∀ y, y ≠ x → t.station y = s.station y) ∧ t.cl = s.cl ∧ t.de = s.de ∧ t.pgc = s.pgc ∧ t.ag = s.ag ∧ t.flc = s.flc ∧
     t.ppu.orbits = s.ppu.orbits)

/-- SERVICE OFF takes a BUSY, IDLE or WRAPUP station without a voice page to OUT, is refused WRONG STATE in OUT, and leaves the
station OUT in every case. DND ON sets the flag and DND OFF clears it in every state with OK; an IDLE station whose flag goes
off is offered. The bytes that name no answered call are assumption 32. -/
def Obligations.ServiceOffAndDoNotDisturb : Prop :=
  ∀ (h : Header) (station : Half) (s : State) (x : StationId), received s h 3 → readStation station = some x →
    s.cl.mode = .run →
    ((s.station x).state = .out →
      exec (.serviceOff h station 2) s = .next (replied (framerHunt s) 0x30 h .wrongState [])) ∧
    ((s.station x).state = .idle ∨ (s.station x).state = .wrapup ∨
        ((s.station x).state = .busy ∧ (s.station x).voicePage = none) →
      let t := (framerHunt s).modStation x fun r => { r with state := .out, call := none, wrapupDl := none }
      exec (.serviceOff h station 2) s = .next (replied t 0x30 h .ok (eventFields t x none))) ∧
    (∃ t, exec (.serviceOff h station 2) s = .next t ∧ (t.station x).state = .out) ∧
    (let t := (framerHunt s).modStation x fun r => { r with dnd := true }
     exec (.dndOn h station 4) s = .next (replied t 0x30 h .ok (eventFields t x none))) ∧
    ((s.station x).dnd = false →
      exec (.dndOff h station 5) s = .next (replied (framerHunt s) 0x30 h .ok (eventFields s x none))) ∧
    (let t := (framerHunt s).modStation x fun r => { r with dnd := false }
     ((s.station x).dnd = true → (s.station x).state ≠ .idle →
       exec (.dndOff h station 5) s = .next (replied t 0x30 h .ok (eventFields t x none))) ∧
     ((s.station x).dnd = true → (s.station x).state = .idle →
       exec (.dndOff h station 5) s = .next (replied (offer t x) 0x30 h .ok (eventFields (offer t x) x none))))

/-- SERVICE ON takes an OUT station to IDLE with its idle-since stamp taken, and offers it to the station arbiter if its
do-not-disturb flag is off; in any other state it is refused WRONG STATE. -/
def Obligations.ServiceOnTakesTheStationToIdle : Prop :=
  ∀ (h : Header) (station : Half) (s : State) (x : StationId), received s h 3 → readStation station = some x →
    s.cl.mode = .run →
    let t := (framerHunt s).modStation x fun r =>
      { r with state := .idle, call := none, wrapupDl := none, idleSince := s.sct.tick }
    ((s.station x).state = .out → (s.station x).dnd = true →
      ∃ f, exec (.serviceOn h station 3) s = .next (replied t 0x30 h .ok f)) ∧
    ((s.station x).state = .out → (s.station x).dnd = false →
      ∃ f, exec (.serviceOn h station 3) s = .next (replied (offer t x) 0x30 h .ok f)) ∧
    ((s.station x).state ≠ .out →
      exec (.serviceOn h station 3) s = .next (replied (framerHunt s) 0x30 h .wrongState []))

/-- A DIRECT CALL OFFER to an available station takes the lowest FREE record with a stepped generation and rings the station with
a stepped ring generation; the ring deadline is the class's coverage ticks when the station has a coverage group. -/
def Obligations.DirectOfferRingsItsStation : Prop :=
  ∀ (h : Header) (target : Half) (priority : Byte) (ref : Half) (s : State) (x : StationId) (pr : Priority) (c : CallId),
    received s h 6 → s.cl.mode = .run → readStation target = some x → readFin 4 priority.toNat = some pr →
    (s.station x).state = .idle → (s.station x).dnd = false → (s.call c).state = .free →
    (∀ d, d < c → (s.call d).state ≠ .free) →
    ∃ t, exec (.callOffer h 1 target priority ref) s = .next t ∧
      t.call c = { Call.freed (nextGen (s.call c).gen) with
        hostRef := ref, kind := .direct, priority := pr, offerTick := s.sct.tick, entryTick := s.sct.tick,
        state := .ringing, ringing := [x], ringDl := coverageDl s x } ∧
      (∀ d, d ≠ c → t.call d = s.call d) ∧
      t.station x = { s.station x with state := .ringing, call := some c, ringGen := nextGen (s.station x).ringGen } ∧
      (∀ y, y ≠ x → t.station y = s.station y) ∧
      hasReply t 0x31 h .ok (enc8 c.val ++ [nextGen (s.call c).gen, 2]) ∧
      (∀ p, (s.station x).cfg.pickup = some p → (t.pickup p).ring.any (fun e => e.call == c) = true) ∧
      (∀ p, (s.station x).cfg.pickup ≠ some p → t.pickup p = s.pickup p) ∧
      t.de = s.de ∧ t.pdir = s.pdir ∧ t.pgc = s.pgc ∧ t.ag = s.ag ∧ t.flc = s.flc ∧ t.cs = s.cs

/-- A GROUP CALL OFFER whose arrival would succeed takes the lowest FREE record and arrives; otherwise it is refused TARGET
BUSY. To an IN SERVICE group with room and no member available it joins the queue in the place its priority gives; with a
LINEAR member available and no equal or higher call waiting it rings the first available member in list order. The refusals of
CALL OFFER leave everything as it was: TARGET BUSY for a station that is not available, CLOSED and BAD VALUE for a CLOSED and
an UNUSED group, NO RESOURCE when no record is FREE. The target's high byte is not read: assumption 27. -/
def Obligations.GroupOffersArriveOrAreRefused : Prop :=
  ∀ (h : Header) (target : Half) (priority : Byte) (ref : Half) (s : State) (pr : Priority), received s h 6 →
    s.cl.mode = .run → readFin 4 priority.toNat = some pr →
    (∀ g c, readFin 64 (target.toNat % 256) = some g → (s.group g).service ≠ .unused → (s.group g).service ≠ .closed →
      (s.call c).state = .free → (∀ d, d < c → (s.call d).state ≠ .free) →
      let u := (framerHunt s).modCall c (fun d => { Call.freed (nextGen d.gen) with
        hostRef := ref, kind := .group, priority := pr, offerTick := s.sct.tick, entryTick := s.sct.tick, home := some g,
        current := some g })
      (arrivalOk s c pr 3 g = true → exec (.callOffer h 0 target priority ref) s =
        .next (replied (arrive 3 u c g) 0x31 h .ok (offerFields (arrive 3 u c g) c))) ∧
      (arrivalOk s c pr 3 g = false →
        exec (.callOffer h 0 target priority ref) s = .next (replied (framerHunt s) 0x31 h .targetBusy []))) ∧
    (∀ g c m, readFin 64 (target.toNat % 256) = some g → (s.group g).service = .inService → (s.call c).state = .free →
      (∀ d, d < c → (s.call d).state ≠ .free) → (s.group g).cfg.method = .linear →
      (s.group g).members.find? (fun e => (s.station e.station).available && e.loggedIn) = some m →
      c ∉ (s.group g).queue → (∀ d, d ∈ (s.group g).queue → (s.call d).priority < pr) →
      ∃ t, exec (.callOffer h 0 target priority ref) s = .next t ∧ (t.call c).state = .ringing ∧
        (t.call c).ringing = [m.station] ∧ (t.call c).ringDl = afterOpt s.sct.tick (s.group g).cfg.noAnswer ∧
        (t.call c).overflowDl = afterOpt s.sct.tick (s.group g).cfg.overflowTicks ∧
        t.station m.station = { s.station m.station with
          state := .ringing, call := some c, ringGen := nextGen (s.station m.station).ringGen } ∧
        (∀ y, y ≠ m.station → t.station y = s.station y) ∧ (∀ d, d ≠ c → t.call d = s.call d) ∧ t.de = s.de ∧
        t.pgc = s.pgc ∧ t.ag = s.ag ∧ t.flc = s.flc ∧ hasReply t 0x31 h .ok (enc8 c.val ++ [nextGen (s.call c).gen, 2])) ∧
    (∀ g c, readFin 64 (target.toNat % 256) = some g → (s.group g).service = .inService → (s.call c).state = .free →
      (∀ d, d < c → (s.call d).state ≠ .free) → anyFree s g = false →
      ((s.group g).queue.erase c).length < (s.group g).cfg.queueLimit →
      let u := (framerHunt s).modCall c (fun d => { Call.freed (nextGen d.gen) with
        hostRef := ref, kind := .group, priority := pr, offerTick := s.sct.tick, entryTick := s.sct.tick, home := some g,
        current := some g, overflowDl := afterOpt s.sct.tick (s.group g).cfg.overflowTicks })
      ∃ t, exec (.callOffer h 0 target priority ref) s = .next t ∧
        t = replied (queueJoin u g c) 0x31 h .ok (offerFields (queueJoin u g c) c) ∧
        (t.call c).state = .queued ∧ (t.call c).gen = nextGen (s.call c).gen ∧
        (t.group g).queue = insertBy (queuePrecedes u) c (s.group g).queue) ∧
    (∀ x, readStation target = some x → (s.station x).available = false →
      exec (.callOffer h 1 target priority ref) s = .next (replied (framerHunt s) 0x31 h .targetBusy [])) ∧
    (∀ x, readStation target = some x → (s.station x).available = true → (∀ c, (s.call c).state ≠ .free) →
      exec (.callOffer h 1 target priority ref) s = .next (replied (framerHunt s) 0x31 h .noResource [])) ∧
    (∀ g, readFin 64 (target.toNat % 256) = some g → (s.group g).service ≠ .unused → (s.group g).service ≠ .closed →
      (∀ c, (s.call c).state ≠ .free) →
      exec (.callOffer h 0 target priority ref) s = .next (replied (framerHunt s) 0x31 h .noResource [])) ∧
    (∀ g, readFin 64 (target.toNat % 256) = some g → (s.group g).service = .closed →
      exec (.callOffer h 0 target priority ref) s = .next (replied (framerHunt s) 0x31 h .closed [])) ∧
    (∀ g, readFin 64 (target.toNat % 256) = some g → (s.group g).service = .unused →
      exec (.callOffer h 0 target priority ref) s = .next (replied (framerHunt s) 0x31 h .badValue []))

/-- CALL GONE is refused STALE for another generation and WRONG STATE for a FREE record; otherwise the call is freed with no
wrap-up, and the reply carries the state it was in. A QUEUED call leaves its queue, and its record is FREE with its generation
kept; what it holds in the fields that have no absent form is the model's choice, assumption 4. -/
def Obligations.CallGoneFreesTheCall : Prop :=
  ∀ (h : Header) (call generation : Byte) (s : State) (c : CallId), received s h 2 → s.cl.mode = .run →
    readFin 192 call.toNat = some c →
    (generation ≠ 0 → generation ≠ (s.call c).gen →
      exec (.callGone h call generation) s = .next (replied (framerHunt s) 0x32 h .stale [])) ∧
    (generation = 0 ∨ generation = (s.call c).gen → (s.call c).state = .free →
      exec (.callGone h call generation) s = .next (replied (framerHunt s) 0x32 h .wrongState [])) ∧
    (generation = 0 ∨ generation = (s.call c).gen → (s.call c).state ≠ .free →
      exec (.callGone h call generation) s =
        .next (replied (freeCall (framerHunt s) c .idle) 0x32 h .ok [(s.call c).state.code])) ∧
    (∀ g, generation = 0 ∨ generation = (s.call c).gen → (s.call c).state = .queued → (s.call c).current = some g →
      (s.call c).ringing = [] → (s.call c).answering = none → (s.call c).orbit = none → (s.call c).annPage = none →
      ∃ t, exec (.callGone h call generation) s = .next t ∧ t.call c = Call.freed (s.call c).gen ∧
        (t.group g).queue = (s.group g).queue.erase c ∧ t.sct.stations = s.sct.stations)

/-- The expired wrap-up deadline takes the station to IDLE with its stamp taken, and offers it. The expired ring deadline of a
DIRECT call is cleared when the station has no coverage group; otherwise the station leaves, the call moves to the coverage
group, and the station is offered last. A deadline that is not due changes nothing. A row taken at another moment than its
deadline is assumption 6; the queue length in the COVERED notice is assumption 35. -/
def Obligations.WrapupAndCoverageExpire : Prop :=
  ∀ (s : State) (x : StationId) (c : CallId),
    ((s.station x).state = .wrapup → due s.sct.tick (s.station x).wrapupDl = true →
      exec (.wrapupExpiry x) s = .next (finish (offer (s.modStation x fun r =>
        { r with state := .idle, call := none, wrapupDl := none, idleSince := s.sct.tick }) x))) ∧
    (due s.sct.tick (s.station x).wrapupDl = false → exec (.wrapupExpiry x) s = .next s) ∧
    ((s.call c).state = .ringing → (s.call c).kind = .direct → due s.sct.tick (s.call c).ringDl = true →
      (s.call c).ringing = [x] →
      ((s.station x).cfg.coverage = none →
        exec (.coverageExpiry c) s = .next (finish (s.modCall c fun d => { d with ringDl := none }))) ∧
      (∀ g, (s.station x).cfg.coverage = some g →
        exec (.coverageExpiry c) s = .next (finish (offer (coverTo (ringLeave s c .idle x) c x g) x)))) ∧
    (due s.sct.tick (s.call c).ringDl = false → exec (.coverageExpiry c) s = .next s)

/-- The expired ring deadline of a sequential call puts its stations into the tried set, takes them off the call, advances it
and offers them. That of a RING ALL call is cleared without an overflow group, fails or makes the redirect with one. The
expired overflow deadline of a QUEUED call is cleared without an overflow group, and with one the redirect fails or is made. A
row taken at another moment than its deadline is assumption 6; when the RING ALL test is made is assumption 25. -/
def Obligations.RingAndOverflowDeadlinesExpire : Prop :=
  ∀ (s : State) (c : CallId) (g : GroupId), (s.call c).current = some g →
    ((s.call c).state = .ringing → (s.call c).kind = .group → due s.sct.tick (s.call c).ringDl = true →
      ((s.group g).cfg.method ≠ .ringAll →
        let rang := (s.call c).ringing
        let u := s.modCall c fun d => { d with ringDl := none, tried := rang.foldl (fun l x => insertAsc x l) d.tried }
        exec (.noAnswerExpiry c) s = .next (finish (offerAll (advance (ringLeaveAll u c rang) c g) rang)) ∧
        exec (.ringAllExpiry c) s = .next s) ∧
      ((s.group g).cfg.method = .ringAll →
        let u := s.modCall c fun d => { d with ringDl := none }
        exec (.noAnswerExpiry c) s = .next s ∧
        ((s.group g).cfg.overflowGroup = none → exec (.ringAllExpiry c) s = .next (finish u)) ∧
        (∀ d why, (s.group g).cfg.overflowGroup = some d → redirectTest u c d = some why →
          exec (.ringAllExpiry c) s = .next (finish (redirectFails u c g d why))) ∧
        (∀ d, (s.group g).cfg.overflowGroup = some d → redirectTest u c d = none →
          exec (.ringAllExpiry c) s = .next (finish (offerAll
            (redirect (ringLeaveAll u c (s.call c).ringing) c g d (.overflow .ringAll)).1 (s.call c).ringing))))) ∧
    ((s.call c).state = .queued → due s.sct.tick (s.call c).overflowDl = true →
      ((s.group g).cfg.overflowGroup = none →
        exec (.overflowExpiry c) s = .next (finish (s.modCall c fun d => { d with overflowDl := none }))) ∧
      (∀ d why, (s.group g).cfg.overflowGroup = some d → redirectTest s c d = some why →
        exec (.overflowExpiry c) s = .next (finish (queueReport (s.modCall c fun e => { e with overflowDl := none })
          (.queueState g (.redirectFailed { call := c, gen := (s.call c).gen, redirects := (s.call c).redirects } d why)
            (s.group g).queue.length)))) ∧
      (∀ d, (s.group g).cfg.overflowGroup = some d → redirectTest s c d = none →
        exec (.overflowExpiry c) s = .next (finish (arrive (hopsLeft ((s.call c).redirects + 1))
          (moveOut (leaveQueueIfQueued s c) c g (fun r => .overflowed r d .deadline)) c d)))) ∧
    ((s.call c).state ≠ .queued → exec (.overflowExpiry c) s = .next s)

/-! ## Members and group modes -/

/-- MEMBER LOGIN sets the login flags of the groups it names and offers the station when one changed; MEMBER LOGOUT clears them,
and stops the station's ring for a group just left. A station that is no member of the groups named is refused NOT MEMBER. That a
RECALLING GROUP call rings on is the model's choice, assumption 34. -/
def Obligations.LoginsSetTheirFlags : Prop :=
  ∀ (h : Header) (station : Half) (group : Byte) (s : State) (x : StationId) (target : Option GroupId), received s h 3 →
    s.cl.mode = .run → readStation station = some x → readOpt 64 group = some target →
    (∀ gs, loginGroups s x target = some gs →
      (let changed := loginChanges s x true gs
       let t := setLogin (framerHunt s) x true changed
       (changed = [] → exec (.memberLogin h station group) s = .next (replied t 0x33 h .ok [0])) ∧
       (changed ≠ [] → exec (.memberLogin h station group) s =
         .next (replied (offer t x) 0x33 h .ok (enc8 changed.length)))) ∧
      (let changed := loginChanges s x false gs
       let t := setLogin (framerHunt s) x false changed
       ((∀ g, g ∈ changed → ringsForGroup s x g = none) →
         exec (.memberLogout h station group) s = .next (replied t 0x34 h .ok (enc8 changed.length))) ∧
       exec (.memberLogout h station group) s = .next (replied (logoutRing t x changed) 0x34 h .ok (enc8 changed.length)))) ∧
    (loginGroups s x target = none →
      exec (.memberLogin h station group) s = .next (replied (framerHunt s) 0x33 h .notMember []) ∧
      exec (.memberLogout h station group) s = .next (replied (framerHunt s) 0x34 h .notMember []))

/-- GROUP MODE, in SETUP and in RUN and during a save: the present mode changes nothing; CLOSED sets the service state alone;
NIGHT without a night group sets it alone, and with one redirects the queued calls in queue order; IN SERVICE offers the waiting
calls to the members. -/
def Obligations.GroupModeSwitchesTheGroup : Prop :=
  ∀ (h : Header) (group mode : Byte) (s : State) (g : GroupId), received s h 2 → readFin 64 group.toNat = some g →
    (s.group g).service ≠ .unused →
    let u (m : ServiceState) := (framerHunt s).modGroup g fun r => { r with service := m }
    (∀ m, readMode mode = some m → (s.group g).service = m →
      exec (.groupMode h group mode) s =
        .next (replied (framerHunt s) 0x21 h .ok ([m.code] ++ enc8 (s.group g).queue.length))) ∧
    (mode = 3 → (s.group g).service ≠ .closed → exec (.groupMode h group mode) s =
      .next (replied (u .closed) 0x21 h .ok ([3] ++ enc8 (s.group g).queue.length))) ∧
    (mode = 2 → (s.group g).service ≠ .night → (s.group g).cfg.nightGroup = none → exec (.groupMode h group mode) s =
      .next (replied (u .night) 0x21 h .ok ([2] ++ enc8 (s.group g).queue.length))) ∧
    (∀ n, mode = 2 → (s.group g).service ≠ .night → (s.group g).cfg.nightGroup = some n →
      ∃ t, exec (.groupMode h group mode) s = .next t ∧
        t = (let v := (s.group g).queue.foldl (fun a c => (redirect a c g n .night).1) (u .night)
             replied v 0x21 h .ok ([(v.group g).service.code] ++ enc8 (v.group g).queue.length))) ∧
    (mode = 1 → (s.group g).service ≠ .inService →
      ∃ t, exec (.groupMode h group mode) s = .next t ∧
        t = (let v := switchInService (u .inService) g
             replied v 0x21 h .ok ([(v.group g).service.code] ++ enc8 (v.group g).queue.length)) ∧
        ((s.group g).cfg.method ≠ .ringAll → (s.group g).queue = [] →
          t = replied (u .inService) 0x21 h .ok ([1, 0])))

/-! ## Pickup and park -/

/-- The three pickups and RETRIEVE take the call that their rule finds for an IDLE or BUSY station with the capability: the head of
the first ring list searched or the call named, the call at the target, the head of the queue, the call in the orbit. With nothing
there, without the capability, for another generation and, of a GROUP PICKUP by name, for a call that rings no more, they are
refused and change nothing. -/
def Obligations.PickupsTakeTheirCall : Prop :=
  ∀ (h : Header) (station : Half) (s : State) (x : StationId), readStation station = some x → s.cl.mode = .run →
    ((s.station x).state = .idle ∨ (s.station x).state = .busy) →
    (∀ call generation, received s h 4 →
      let taken (c : CallId) (p : PickupId) := replied (takeCall (framerHunt s) c x) 0x35 h .ok
        (enc8 c.val ++ [(s.call c).gen] ++ enc8 p.val ++ [(s.call c).state.code])
      (∀ c p, call = 0xFF → firstRing s (searchedGroups s x) = some (c, p) →
        exec (.groupPickup h station call generation) s = .next (taken c p)) ∧
      (call = 0xFF → firstRing s (searchedGroups s x) = none →
        exec (.groupPickup h station call generation) s = .next (replied (framerHunt s) 0x35 h .nothingToPickUp [])) ∧
      (∀ c, call ≠ 0xFF → readFin 192 call.toNat = some c →
        (generation ≠ 0 → generation ≠ (s.call c).gen →
          exec (.groupPickup h station call generation) s = .next (replied (framerHunt s) 0x35 h .stale [])) ∧
        (generation = 0 ∨ generation = (s.call c).gen →
          ((s.call c).state ≠ .ringing → (s.call c).state ≠ .recalling →
            exec (.groupPickup h station call generation) s = .next (replied (framerHunt s) 0x35 h .tooLate [])) ∧
          ((s.call c).state = .ringing ∨ (s.call c).state = .recalling →
            (∀ p, ringOf s (searchedGroups s x) c = some (c, p) →
              exec (.groupPickup h station call generation) s = .next (taken c p)) ∧
            (ringOf s (searchedGroups s x) c = none →
              exec (.groupPickup h station call generation) s =
                .next (replied (framerHunt s) 0x35 h .nothingToPickUp [])))))) ∧
    (∀ target generation y, received s h 5 → readStation target = some y →
      ((s.classOf x).directed = false →
        exec (.directedPickup h station target generation) s = .next (replied (framerHunt s) 0x36 h .denied [])) ∧
      ((s.classOf x).directed = true → generation ≠ 0 → generation ≠ (s.station y).ringGen →
        exec (.directedPickup h station target generation) s = .next (replied (framerHunt s) 0x36 h .stale [])) ∧
      ((s.classOf x).directed = true → (generation = 0 ∨ generation = (s.station y).ringGen) →
        (∀ c, (s.station y).state = .ringing → (s.station y).call = some c →
          exec (.directedPickup h station target generation) s = .next (replied (takeCall (framerHunt s) c x) 0x36 h .ok
            (enc8 c.val ++ [(s.call c).gen] ++ [(s.call c).state.code]))) ∧
        ((s.station y).state ≠ .ringing →
          exec (.directedPickup h station target generation) s =
            .next (replied (framerHunt s) 0x36 h (if generation = 0 then .nothingToPickUp else .tooLate) [])))) ∧
    (∀ group g, received s h 3 → readFin 64 group.toNat = some g → (s.group g).service ≠ .unused →
      ((s.classOf x).queuePickup = false →
        exec (.queuePickup h station group) s = .next (replied (framerHunt s) 0x37 h .denied [])) ∧
      (∀ c cs, (s.classOf x).queuePickup = true → (s.group g).queue = c :: cs →
        exec (.queuePickup h station group) s = .next (replied (takeCall (framerHunt s) c x) 0x37 h .ok
          (enc8 c.val ++ [(s.call c).gen]))) ∧
      ((s.classOf x).queuePickup = true → (s.group g).queue = [] →
        exec (.queuePickup h station group) s = .next (replied (framerHunt s) 0x37 h .nothingToPickUp []))) ∧
    (∀ orbit generation o, received s h 4 → readFin 32 orbit.toNat = some o →
      ((s.orbit o).state = .free →
        exec (.retrieve h station orbit generation) s = .next (replied (framerHunt s) 0x39 h .orbitEmpty [])) ∧
      (∀ c, (s.orbit o).state = .held → (s.orbit o).call = some c →
        (generation ≠ 0 → generation ≠ (s.orbit o).gen →
          exec (.retrieve h station orbit generation) s = .next (replied (framerHunt s) 0x39 h .stale [])) ∧
        (generation = 0 ∨ generation = (s.orbit o).gen →
          exec (.retrieve h station orbit generation) s = .next (replied (takeCall (framerHunt s) c x) 0x39 h .ok
            (enc8 c.val ++ [(s.call c).gen])))))

/-- PARK puts the call of a TALKING station with the capability into the head of the free order, or the FREE orbit named: the orbit
is HELD with a stepped generation and the class's recall deadline, the call PARKED, the station BUSY. When asked, the park
announcement follows, and its outcome is in the reply. A HELD orbit is refused ORBIT BUSY, an empty free order NO RESOURCE. -/
def Obligations.ParkHoldsTheCallInAnOrbit : Prop :=
  ∀ (h : Header) (station : Half) (orbit directory entry : Byte) (s : State) (x : StationId) (c : CallId)
    (code : Option (DirectoryId × EntryId)) (named : Option OrbitId), received s h 6 → s.cl.mode = .run →
    readStation station = some x → (s.station x).state = .talking → (s.station x).call = some c →
    readOpt 32 orbit = some named → readPageCode directory entry = some code →
    ((s.classOf x).park = false →
      exec (.park h station orbit 0 directory entry) s = .next (replied (framerHunt s) 0x38 h .denied [])) ∧
    (∀ o, (s.classOf x).park = true → named = some o → (s.orbit o).state = .held →
      exec (.park h station orbit 0 directory entry) s = .next (replied (framerHunt s) 0x38 h .orbitBusy [])) ∧
    ((s.classOf x).park = true → named = none → s.ppu.freeOrder = [] →
      exec (.park h station orbit 0 directory entry) s = .next (replied (framerHunt s) 0x38 h .noResource [])) ∧
    (∀ o, (s.classOf x).park = true →
      ((named = none ∧ s.ppu.freeOrder.head? = some o) ∨ (named = some o ∧ (s.orbit o).state = .free)) →
      (let u := parkCall (framerHunt s) x c o
       exec (.park h station orbit 1 directory entry) s = .next (replied (announcePark u x c o code).1 0x38 h .ok
         (enc8 o.val ++ [nextGen (s.orbit o).gen] ++ (enc8 c.val ++ [(s.call c).gen]) ++
           announceField (announcePark u x c o code).2))) ∧
      ∃ t, exec (.park h station orbit 0 directory entry) s = .next t ∧
        t.orbit o = { state := .held, call := some c, gen := nextGen (s.orbit o).gen, parker := some x,
                      recallDl := afterOpt s.sct.tick (s.classOf x).recallTicks } ∧
        (∀ p, p ≠ o → t.orbit p = s.orbit p) ∧ t.ppu.freeOrder = s.ppu.freeOrder.erase o ∧
        t.call c = { s.call c with state := .parked, answering := none, orbit := some o, parker := some x,
                                   recallPending := false, overflowDl := none } ∧
        (∀ d, d ≠ c → t.call d = s.call d) ∧ t.station x = { s.station x with state := .busy, call := none } ∧
        (∀ y, y ≠ x → t.station y = s.station y) ∧
        hasReply t 0x38 h .ok
          (enc8 o.val ++ [nextGen (s.orbit o).gen] ++ enc8 c.val ++ [(s.call c).gen] ++ [0xFF, 0xFF, 0]) ∧
        t.de = s.de ∧ t.pdir = s.pdir ∧ t.pgc = s.pgc ∧ t.ag = s.ag ∧ t.flc = s.flc ∧ t.cs = s.cs)

/-- The expired recall deadline of a HELD orbit rings an available parker: the call is RECALLING, its ring deadline the
parker's coverage ticks when it has a coverage group. For a parker that is not available the call goes to the coverage group
when it may, and otherwise waits with its recall pending. The expired ring deadline of a RECALLING call goes to the coverage
group or is cleared. A row taken at another moment than its deadline is assumption 6; when the test is made is assumption 25;
the queue length in the COVERED notice is assumption 35. -/
def Obligations.RecallsRingTheParkerOrCover : Prop :=
  ∀ (s : State) (o : OrbitId) (c : CallId) (x : StationId),
    ((s.orbit o).state = .held → (s.orbit o).call = some c → (s.orbit o).parker = some x →
      due s.sct.tick (s.orbit o).recallDl = true →
      let u := s.modOrbit o fun r => { r with recallDl := none }
      ((s.station x).available = true → (s.call c).annPage = none →
        ∃ t, exec (.recallExpiry o) s = .next t ∧ (t.call c).state = .recalling ∧
          (t.call c).ringing = insertAsc x (s.call c).ringing ∧ (t.call c).ringDl = coverageDl s x ∧
          t.station x = { s.station x with
            state := .ringing, call := some c, ringGen := nextGen (s.station x).ringGen } ∧
          (∀ y, y ≠ x → t.station y = s.station y) ∧ (∀ d, d ≠ c → t.call d = s.call d) ∧
          t.orbit o = { s.orbit o with recallDl := none } ∧ t.ppu.freeOrder = s.ppu.freeOrder ∧ t.de = s.de ∧
          t.pgc = s.pgc ∧ t.flc = s.flc ∧ t.ag = s.ag) ∧
      ((s.station x).available = false → coverageRecallGroup u c x = none →
        exec (.recallExpiry o) s = .next (finish (u.modCall c fun d => { d with recallPending := true }))) ∧
      (∀ g, (s.station x).available = false → coverageRecallGroup u c x = some g →
        exec (.recallExpiry o) s = .next (finish (coverageRecallTo u o c x g)))) ∧
    ((s.call c).state = .recalling → (s.call c).orbit = some o → (s.call c).parker = some x →
      due s.sct.tick (s.call c).ringDl = true →
      (coverageRecallGroup s c x = none →
        exec (.recallRingExpiry c) s = .next (finish (s.modCall c fun d => { d with ringDl := none }))) ∧
      (∀ g, coverageRecallGroup s c x = some g →
        exec (.recallRingExpiry c) s = .next (finish (coverageRecallTo s o c x g)))) ∧
    ((s.orbit o).state = .free → exec (.recallExpiry o) s = .next s) ∧
    ((s.call c).state ≠ .recalling → exec (.recallRingExpiry c) s = .next s)

/-! ## Paging, announcements and beacons -/

/-- A zone is takeable for a page when it is a SPEAKER zone, IN SERVICE, in the page's requested zones, and IDLE or PLAYING a page
of a priority strictly below. -/
def Obligations.ZonesAreTakeableForLowerPages : Prop :=
  ∀ (s : State) (pr : Priority) (requested : List ZoneId) (z : ZoneId),
    takeable s pr requested z = true ↔
      (s.zone z).kind = .speaker ∧ (s.zone z).service = .inService ∧ z ∈ requested ∧
        ((s.zone z).playing = none ∨ ∃ q, (s.zone z).playing = some q ∧ (s.page q).priority < pr)

/-- The start attempt takes the lowest ENDED record: none, NO RESOURCE; no zone takeable, the page queues, or NO ZONES with wait
ticks 0; a free bus, the page starts on the lowest one; no free bus and a victim, the victim is CUT and the page starts on its bus;
no victim, the page queues, or NO RESOURCE with wait ticks 0. -/
def Obligations.PageStartAttempt : Prop :=
  ∀ (s : State) (q : PageRequest),
    ((∀ p, (s.page p).state ≠ .ended) → startAttempt s q = .error .noResource) ∧
    (∀ p, (s.page p).state = .ended → (∀ r, r < p → (s.page r).state ≠ .ended) →
      ((∀ z, z ∈ q.zones → takeable s q.priority q.zones z = false) →
        (q.waitTicks = 0 → startAttempt s q = .error .noZones) ∧
        (q.waitTicks ≠ 0 →
          startAttempt s q = .ok { state := enqueuePage (createPage s p q) p, page := p, cut := none })) ∧
      ((∃ z, z ∈ q.zones ∧ takeable s q.priority q.zones z = true) →
        (∀ b, (s.bus b).page = none → (∀ a, a < b → (s.bus a).page ≠ none) →
          startAttempt s q = .ok { state := startPage (createPage s p q) p b, page := p, cut := none }) ∧
        ((∀ b, (s.bus b).page ≠ none) →
          (∀ v b, victim s q.priority = some v → (s.page v).bus = some b →
            startAttempt s q = .ok { state := startPage (createPage (endPageNoScan s v .cut) p q) p b, page := p,
                                     cut := some (v, (s.page v).gen) }) ∧
          (victim s q.priority = none → q.waitTicks = 0 → startAttempt s q = .error .noResource) ∧
          (victim s q.priority = none → q.waitTicks ≠ 0 →
            startAttempt s q = .ok { state := enqueuePage (createPage s p q) p, page := p, cut := none }))))

/-- A PAGE whose directory does not exist, whose code does not resolve or whose source is not granted is refused with the code of
that check. One whose code resolves and whose source is granted makes the start attempt: a refusal is its reply, an accepted attempt's
state stands with the page's fields in the reply. A page that starts holds its bus with a stepped generation, and plays in every
zone that was takeable; one that queues is QUEUED with its wait deadline and takes no bus. -/
def Obligations.PageCreatesAndStarts : Prop :=
  ∀ (h : Header) (requester : Half) (directory entry source : Byte) (s : State) (r : Requester), received s h 5 →
    s.cl.mode = .run → readRequester requester = some r →
    (8 ≤ directory.toNat →
      exec (.page h requester directory entry source) s = .next (replied (framerHunt s) 0x3A h .noSuchCode [])) ∧
    (∀ d, readFin 8 directory.toNat = some d →
    (∀ e, resolveCode s d entry.toNat (rightsOf s r) = .error e →
      exec (.page h requester directory entry source) s = .next (replied (framerHunt s) 0x3A h e [])) ∧
    (∀ v e, resolveCode s d entry.toNat (rightsOf s r) = .ok v → pageSource s r v.code.sourceKind source = .error e →
      exec (.page h requester directory entry source) s = .next (replied (framerHunt s) 0x3A h e [])) ∧
    (∀ v kind src, resolveCode s d entry.toNat (rightsOf s r) = .ok v →
      pageSource s r v.code.sourceKind source = .ok (kind, src) →
    let q := codePageRequest r.origin v kind src
    (∀ e, startAttempt (framerHunt s) q = .error e →
      exec (.page h requester directory entry source) s = .next (replied (framerHunt s) 0x3A h e [])) ∧
    (∀ a, startAttempt (framerHunt s) q = .ok a →
      exec (.page h requester directory entry source) s = .next (replied a.state 0x3A h .ok (startedFields a))) ∧
    (∀ p b, (s.page p).state = .ended → (∀ o, o < p → (s.page o).state ≠ .ended) →
      (∃ z, z ∈ v.zones ∧ takeable s v.code.priority v.zones z = true) →
      (s.bus b).page = none → (∀ a, a < b → (s.bus a).page ≠ none) →
      ∃ t, exec (.page h requester directory entry source) s = .next t ∧ (t.bus b).page = some p ∧
        (t.page p).bus = some b ∧ (t.page p).gen = nextGen (s.page p).gen ∧ (t.page p).origin = r.origin ∧
        (t.page p).priority = v.code.priority ∧ (t.page p).startTick = some s.sct.tick ∧
        (t.page p).endDl = some (s.sct.tick + BitVec.ofNat 32 v.code.maxDuration) ∧
        (v.code.preludeTicks ≠ 0 → (t.page p).state = .prelude ∧
          (t.page p).preludeDl = some (s.sct.tick + BitVec.ofNat 32 v.code.preludeTicks) ∧
          (t.bus b).source = .tone v.code.preludeChannel v.code.preludeTone) ∧
        (v.code.preludeTicks = 0 → (t.page p).state = .playing ∧ (t.page p).preludeDl = none) ∧
        (∀ z, takeable s v.code.priority v.zones z = true → (t.zone z).playing = some p) ∧
        t.cs = s.cs ∧ tables t = tables s) ∧
    (∀ p, (s.page p).state = .ended → (∀ o, o < p → (s.page o).state ≠ .ended) →
      (∀ z, z ∈ v.zones → takeable s v.code.priority v.zones z = false) → v.code.waitTicks ≠ 0 →
      ∃ t, exec (.page h requester directory entry source) s = .next t ∧ (t.page p).state = .queued ∧
        (t.page p).gen = nextGen (s.page p).gen ∧ (t.page p).bus = none ∧ p ∈ t.pgc.queue ∧
        (t.page p).waitDl = some (s.sct.tick + BitVec.ofNat 32 v.code.waitTicks) ∧
        (∀ g, g ∈ v.chain → (t.pageGroup g).referenced = true) ∧ t.pgc.buses = s.pgc.buses ∧ t.flc = s.flc ∧
        t.ag = s.ag ∧ t.de = s.de ∧ t.ppu = s.ppu ∧ t.cs = s.cs)))

/-- PAGE END is refused STALE for another generation, WRONG STATE for an ENDED record and DENIED to a station that is not the
page's origin; otherwise the page ends RELEASED and the reply carries the state it was in. The end, before its queue scan, leaves
the record ENDED with its generation kept and its sets and deadlines empty, its bus free and SILENT, and a zone it played in
without a stacked page IDLE. -/
def Obligations.PageEndReleasesThePage : Prop :=
  (∀ (h : Header) (page generation : Byte) (requester : Half) (s : State) (p : PageId) (r : Requester), received s h 4 →
    s.cl.mode = .run → readFin 16 page.toNat = some p → readRequester requester = some r →
    (generation ≠ 0 → generation ≠ (s.page p).gen →
      exec (.pageEnd h page generation requester) s = .next (replied (framerHunt s) 0x3B h .stale [])) ∧
    (generation = 0 ∨ generation = (s.page p).gen → (s.page p).state = .ended →
      exec (.pageEnd h page generation requester) s = .next (replied (framerHunt s) 0x3B h .wrongState [])) ∧
    (generation = 0 ∨ generation = (s.page p).gen → (s.page p).state ≠ .ended →
      (∀ x, r = .station x → (s.page p).origin ≠ .station x →
        exec (.pageEnd h page generation requester) s = .next (replied (framerHunt s) 0x3B h .denied [])) ∧
      ((r = .console ∨ ∃ x, r = .station x ∧ (s.page p).origin = .station x) →
        exec (.pageEnd h page generation requester) s =
          .next (replied (endPage (framerHunt s) p .released) 0x3B h .ok [(s.page p).state.code])))) ∧
  (∀ (s : State) (p : PageId) (cause : EndCause),
    let t := endPageNoScan s p cause
    endPage s p cause = queueScan t ∧
    (t.page p).state = .ended ∧ (t.page p).endCause = some cause ∧ (t.page p).gen = (s.page p).gen ∧
    (t.page p).audible = [] ∧ (t.page p).suspended = [] ∧ (t.page p).beacons = [] ∧ (t.page p).bus = none ∧
    (t.page p).waitDl = none ∧ (t.page p).preludeDl = none ∧ (t.page p).endDl = none ∧
    (∀ b, (s.page p).bus = some b → t.bus b = Bus.free) ∧ (∀ b, (s.page p).bus ≠ some b → t.bus b = s.bus b) ∧
    (∀ z, z ∈ (s.page p).audible → (s.zone z).stack = [] → (t.zone z).playing = none) ∧
    (∀ z, z ∉ (s.page p).audible → (t.zone z).playing = (s.zone z).playing))

/-- The expired wait deadline of a QUEUED page ends it with WAIT TIMEOUT, the expired end deadline of a page in PRELUDE, PLAYING or
HELD with EXPIRED. An end deadline that an extension has moved ahead does not expire at its old value: the row taken when the
counter has come to the old value changes nothing, and neither does the row taken at once. That a row taken before its deadline
changes nothing, which the second of these needs when the old value is still ahead, is the model's choice, assumption 6. -/
def Obligations.DeadlinesEndPages : Prop :=
  ∀ (s : State) (p : PageId),
    ((s.page p).state = .queued → (s.page p).waitDl = some s.sct.tick →
      exec (.waitTimeout p) s = .next (finish (endPage s p .waitTimeout))) ∧
    ((s.page p).state = .prelude ∨ (s.page p).state = .playing ∨ (s.page p).state = .held →
      (s.page p).endDl = some s.sct.tick →
      exec (.endDeadlineExpiry p) s = .next (finish (endPage s p .expired))) ∧
    (∀ (length : Nat) (old : Tick), (s.page p).live = true → (s.page p).endDl = some old → 0 < length → length < 2 ^ 31 →
      remaining s.sct.tick old ≤ length →
      let t := extendPage s p (s.page p).gen length
      (t.page p).endDl = some (s.sct.tick + BitVec.ofNat 32 length) ∧ exec (.endDeadlineExpiry p) t = .next t) ∧
    (∀ length ahead : Nat, (s.page p).live = true → (s.page p).endDl = some (s.sct.tick + BitVec.ofNat 32 ahead) →
      ahead < length → length < 2 ^ 31 →
      let t := extendPage s p (s.page p).gen length
      let u := { t with sct := { t.sct with tick := s.sct.tick + BitVec.ofNat 32 ahead } }
      (u.page p).endDl = some (s.sct.tick + BitVec.ofNat 32 length) ∧ exec (.endDeadlineExpiry p) u = .next u)

/-- The expired prelude deadline of a page in PRELUDE or HELD is cleared and its claim dropped; the page's bus takes its main
source, with a PLAY PROMPT for a PROMPT page and a claim for a TONE page; PRELUDE becomes PLAYING and HELD stays HELD. A
deadline that is not due changes nothing. A row taken at another moment than its deadline is assumption 6; that a channel which
the dropped claim stops keeps its step tick is assumption 39. -/
def Obligations.PreludeEndsInTheMainSource : Prop :=
  ∀ (s : State) (p : PageId) (b : BusId), (s.page p).bus = some b →
    (due s.sct.tick (s.page p).preludeDl = false → exec (.preludeExpiry p) s = .next s) ∧
    (due s.sct.tick (s.page p).preludeDl = true → ((s.page p).state = .prelude ∨ (s.page p).state = .held) →
      let r := s.page p
      let u := dropClaim (s.modPage p fun r => { r with preludeDl := none }) r.preludeChannel .prelude
      let st (v : State) := v.modPage p fun d => { d with state := if r.state = .prelude then .playing else .held }
      (∀ n, r.source = .slot n →
        exec (.preludeExpiry p) s = .next (finish (st (u.modBus b fun d => { d with source := .slot n })))) ∧
      (∀ n, r.source = .prompt n →
        exec (.preludeExpiry p) s = .next (finish (st (queueReport (u.modBus b fun d => { d with source := .prompt })
          (.playPrompt p r.gen b n))))) ∧
      (∀ k t, r.source = .tone k t →
        exec (.preludeExpiry p) s = .next (finish (st (placeClaim (u.modBus b fun d => { d with source := .tone k t })
          k .tone)))))

/-- SUMMON of a group with an announcement page group, by the console or a station with the capability, extends a LIVE
announcement with its counter at 0, and otherwise triggers the announcement: a page created is LIVE, a refusal leaves it ARMED over
a waiting queue and IDLE over an empty one. SUMMON HUSH sets the counter to 0 and restarts the delay of an ARMED announcement. -/
def Obligations.SummonTriggersExtendsAndHushes : Prop :=
  ∀ (h : Header) (requester : Half) (group : Byte) (s : State) (r : Requester) (g : GroupId), received s h 3 →
    s.cl.mode = .run → readRequester requester = some r → readFin 64 group.toNat = some g →
    (s.group g).service ≠ .unused →
    (maySummon s r = false →
      exec (.summon h requester group) s = .next (replied (framerHunt s) 0x3C h .denied []) ∧
      exec (.summonHush h requester group) s = .next (replied (framerHunt s) 0x3D h .denied [])) ∧
    (maySummon s r = true → (s.group g).annP.pageGroup = none →
      exec (.summon h requester group) s = .next (replied (framerHunt s) 0x3C h .wrongState []) ∧
      exec (.summonHush h requester group) s = .next (replied (framerHunt s) 0x3D h .wrongState [])) ∧
    (maySummon s r = true → (s.group g).annP.pageGroup ≠ none →
      let zero := (framerHunt s).modGroup g fun d => { d with ann := { d.ann with counter := 0 } }
      let a := (framerHunt s).modGroup g fun d => { d with ann := { d.ann with counter := 0, delayDl := none } }
      (∀ p gen, (s.group g).ann.state = .live → (s.group g).ann.live = some (p, gen) →
        exec (.summon h requester group) s =
          .next (replied (extendPage zero p gen (s.group g).annP.length) 0x3C h .ok
            ([2] ++ encRef (some (p, gen)) ++ [0] ++ encRef (some (p, gen))))) ∧
      (∀ v, (s.group g).ann.state ≠ .live → announcementAttempt a g = .ok v →
        let ref := (v.page, (v.state.page v.page).gen)
        exec (.summon h requester group) s =
          .next (replied (v.state.modGroup g fun d => { d with ann := { d.ann with state := .live, live := some ref } })
            0x3C h .ok ([2] ++ encRef (some ref) ++ [0] ++ encRef (some ref)))) ∧
      (∀ e, (s.group g).ann.state ≠ .live → announcementAttempt a g = .error e →
        (∃ t, exec (.summon h requester group) s = .next t ∧ (t.group g).ann.counter = 0 ∧
          ((s.group g).queue ≠ [] → (t.group g).ann.state = .armed ∧
            (t.group g).ann.delayDl = afterOpt s.sct.tick (s.group g).annP.delay) ∧
          ((s.group g).queue = [] → (t.group g).ann.state = .idle ∧ (t.group g).ann.delayDl = none) ∧
          (∀ f, f ≠ g → t.group f = s.group f) ∧ t.pgc = s.pgc ∧ t.flc = s.flc ∧ t.ag = s.ag ∧ t.sct = s.sct)) ∧
      ((s.group g).ann.state = .idle → exec (.summonHush h requester group) s =
        .next (replied (framerHunt s) 0x3D h .ok ([0] ++ encRef (s.group g).ann.live))) ∧
      ((s.group g).ann.state = .armed → exec (.summonHush h requester group) s =
        .next (replied ((framerHunt s).modGroup g fun d =>
            { d with ann := { d.ann with counter := 0, delayDl := afterOpt s.sct.tick d.annP.delay } }) 0x3D h .ok
          ([1] ++ encRef (s.group g).ann.live))) ∧
      ((s.group g).ann.state = .live → exec (.summonHush h requester group) s =
        .next (replied zero 0x3D h .ok ([2] ++ encRef (s.group g).ann.live))))

/-- The expired delay of an ARMED announcement triggers it; the expired debounce of a beacon turns it OFF, drops its claim, and
its zone chooses again. A row taken at another moment than its deadline is assumption 6; that a channel which the dropped claim
stops keeps its step tick is assumption 39. -/
def Obligations.AnnounceDelayAndDebounceExpire : Prop :=
  ∀ (s : State) (g : GroupId),
    ((s.group g).ann.state = .armed → due s.sct.tick (s.group g).ann.delayDl = true →
      exec (.announceDelayExpiry g) s = .next (finish (triggerAnnouncement s g).1)) ∧
    ((s.group g).beacon.state = .debounce → due s.sct.tick (s.group g).beacon.dl = true →
      exec (.debounceExpiry g) s = .next (finish (refollowOpt
        (dropClaim (s.modGroup g fun r => { r with beacon := { state := .off, dl := none } }) (s.group g).beaconP.channel
          .group) (s.group g).beaconP.zone))) ∧
    (((s.group g).ann.state ≠ .armed ∨ due s.sct.tick (s.group g).ann.delayDl = false) →
      exec (.announceDelayExpiry g) s = .next s) ∧
    (((s.group g).beacon.state ≠ .debounce ∨ due s.sct.tick (s.group g).beacon.dl = false) →
      exec (.debounceExpiry g) s = .next s)

/-! ## The field line -/

/-- ZONE RESTORE of a FAULTED zone of a PRESENT module removes the fault, keeps its generation, and returns the zone to IN SERVICE;
it is refused WRONG STATE and STALE in its order. ZONE SERVICE OFF takes a zone OUT OF SERVICE with its fault kept; ON brings it
back FAULTED over a fault and IN SERVICE otherwise; the other setting of each is refused WRONG STATE. -/
def Obligations.ZonesAreRestoredAndTakenOut : Prop :=
  ∀ (h : Header) (zone generation : Byte) (s : State) (z : ZoneId), received s h 2 → s.cl.mode = .run →
    readFin 48 zone.toNat = some z →
    ((s.zone z).service ≠ .faulted →
      exec (.zoneRestore h zone generation) s = .next (replied (framerHunt s) 0x3E h .wrongState [])) ∧
    ((s.zone z).service = .faulted → generation ≠ 0 → generation ≠ (s.zone z).faultGen →
      exec (.zoneRestore h zone generation) s = .next (replied (framerHunt s) 0x3E h .stale [])) ∧
    ((s.zone z).service = .faulted → (generation = 0 ∨ generation = (s.zone z).faultGen) →
      ((s.fieldModule (moduleOf z)).state ≠ .present →
        exec (.zoneRestore h zone generation) s = .next (replied (framerHunt s) 0x3E h .wrongState [])) ∧
      ((s.fieldModule (moduleOf z)).state = .present →
        ∃ t, exec (.zoneRestore h zone generation) s = .next t ∧ (t.zone z).service = .inService ∧
          (t.zone z).fault = none ∧ (t.zone z).faultGen = (s.zone z).faultGen ∧ (t.zone z).kind = (s.zone z).kind ∧
          hasReply t 0x3E h .ok [0, (s.zone z).faultGen] ∧
          (t.fieldModule (moduleOf z)).pendingRoute = some { a := settingOf t (zoneA (moduleOf z)),
                                                             b := settingOf t (zoneB (moduleOf z)) } ∧
          (∀ y, y ≠ z → (t.zone y).service = (s.zone y).service ∧ (t.zone y).fault = (s.zone y).fault ∧
            (t.zone y).faultGen = (s.zone y).faultGen ∧ (t.zone y).kind = (s.zone y).kind))) ∧
    ((s.zone z).service ≠ .outOfService →
      exec (.zoneService h zone 1) s = .next (replied (framerHunt s) 0x3F h .wrongState []) ∧
      ∃ t, exec (.zoneService h zone 0) s = .next t ∧ (t.zone z).service = .outOfService ∧
        (t.zone z).fault = (s.zone z).fault ∧ (t.zone z).faultGen = (s.zone z).faultGen ∧ hasReply t 0x3F h .ok [2]) ∧
    ((s.zone z).service = .outOfService →
      exec (.zoneService h zone 0) s = .next (replied (framerHunt s) 0x3F h .wrongState []) ∧
      ∃ t, exec (.zoneService h zone 1) s = .next t ∧
        ((s.zone z).fault ≠ none → (t.zone z).service = .faulted ∧ hasReply t 0x3F h .ok [1]) ∧
        ((s.zone z).fault = none → (t.zone z).service = .inService ∧ hasReply t 0x3F h .ok [0]) ∧
        (t.zone z).fault = (s.zone z).fault ∧ (t.zone z).faultGen = (s.zone z).faultGen)

/-- Latching a fault stores it, steps the fault generation unless the zone held that fault, and takes an IN SERVICE zone to
FAULTED, an OUT OF SERVICE zone staying so; a ZONE STATE notice is queued when the fault or the generation changed, and then the
loss is handed on when the zone left IN SERVICE. -/
def Obligations.FaultsAreLatched : Prop :=
  ∀ (s : State) (z : ZoneId) (f : FaultKind),
    let d := s.zone z
    let e := { d with
      fault := some f
      faultGen := if d.fault = some f then d.faultGen else nextGen d.faultGen
      service := if d.service = .inService then .faulted else d.service }
    let u := s.modZone z fun _ => e
    let n := queueReport u (.zoneState z e.kind e.service e.fault e.faultGen)
    (d.service = .inService → d.fault ≠ some f → latchFault s z f = zoneLost n z) ∧
    (d.service ≠ .inService → d.fault ≠ some f → latchFault s z f = n) ∧
    (d.service ≠ .inService → d.fault = some f → latchFault s z f = s) ∧
    ((latchFault s z f).zone z).fault = some f ∧ ((latchFault s z f).zone z).faultGen = e.faultGen ∧
    ((latchFault s z f).zone z).service = e.service ∧
    (∀ y, y ≠ z → ((latchFault s z f).zone y).fault = (s.zone y).fault ∧
      ((latchFault s z f).zone y).faultGen = (s.zone y).faultGen ∧
      ((latchFault s z f).zone y).service = (s.zone y).service ∧ ((latchFault s z f).zone y).kind = (s.zone y).kind)

/-- An IDENTIFY answer of the addressed module stores type and revision. Of the configured type, the module is PRESENT and its
zones take its kind, lose a TYPE MISMATCH and are IN SERVICE without a fault, unless taken out. Of another type, an ABSENT
module becomes MISMATCH and both its zones get fault TYPE MISMATCH and kind NONE; a MISMATCH module stays so. The order of the
steps is assumption 23. -/
def Obligations.IdentifyAnswersSetTheModule : Prop :=
  ∀ (address kind revision : Byte) (s : State) (m : ModuleId) (again : Bool) (ty : ModuleType),
    s.flc.line = .exchange m .identify again → address.toNat = m.val → readTypeCode kind = some ty →
    ((s.fieldModule m).state = .absent ∨ (s.fieldModule m).state = .mismatch) →
    ∃ t, exec (.identifyAnswer address kind revision) s = .next t ∧ (t.fieldModule m).sensed = ty ∧
      (t.fieldModule m).revision = some revision ∧ (t.fieldModule m).configured = (s.fieldModule m).configured ∧
      t.flc.line ≠ .free ∧
      ((s.fieldModule m).configured = ty → (t.fieldModule m).state = .present ∧
        (t.fieldModule m).appliedRoute = none ∧
        ∀ z, z = zoneA m ∨ z = zoneB m →
          (t.zone z).kind = ty.zoneKind ∧ (t.zone z).faultGen = (s.zone z).faultGen ∧
          (t.zone z).fault = (if (s.zone z).fault = some .typeMismatch then none else (s.zone z).fault) ∧
          ((s.zone z).service = .outOfService → (t.zone z).service = .outOfService) ∧
          ((s.zone z).service ≠ .outOfService → (t.zone z).fault = none → (t.zone z).service = .inService)) ∧
      ((s.fieldModule m).configured ≠ ty → (t.fieldModule m).state = .mismatch) ∧
      ((s.fieldModule m).configured ≠ ty → (s.fieldModule m).state = .absent →
        ∀ z, z = zoneA m ∨ z = zoneB m →
          (t.zone z).kind = .none ∧ (t.zone z).fault = some .typeMismatch ∧ (t.zone z).service ≠ .inService) ∧
      ((s.fieldModule m).configured ≠ ty → (s.fieldModule m).state = .mismatch → t.flc.zones = s.flc.zones)

/-- A ROUTE answer that echoes the settings sent makes them the applied route. A POLL answer first brings a MISSING module back
to PRESENT; then a load reading is stored for its zone and a fault code latched, channel A first. The line then goes on to its
next exchange. The answers of an ABSENT module and to a module that left PRESENT are assumptions 22 and 24. -/
def Obligations.RouteAndPollAnswersAreTaken : Prop :=
  (∀ (address a b : Byte) (s : State) (m : ModuleId) (r : Route) (again : Bool), s.flc.line = .exchange m (.route r) again →
    address.toNat = m.val → [a] = encSetting r.a → [b] = encSetting r.b →
    exec (.routeAnswer address a b) s =
      .next (finish (lineArbiter (s.modModule m fun d => { d with appliedRoute := some r })))) ∧
  (∀ (address : Byte) (a b : Half) (s : State) (m : ModuleId) (again : Bool) (x y : ChannelStatus),
    s.flc.line = .exchange m .poll again → address.toNat = m.val → readStatusWord a = some x → readStatusWord b = some y →
    ((s.fieldModule m).state = .present →
      exec (.pollAnswer address a b) s =
        .next (finish (endExchange (takeStatus (takeStatus s (zoneA m) x) (zoneB m) y) m .poll))) ∧
    ((s.fieldModule m).state = .missing →
      exec (.pollAnswer address a b) s =
        .next (finish (endExchange (takeStatus (takeStatus (moduleReturns s m) (zoneA m) x) (zoneB m) y) m .poll)) ∧
      ((moduleReturns s m).fieldModule m).state = .present ∧ (moduleReturns s m).flc.zones = s.flc.zones ∧
      ((moduleReturns s m).fieldModule m).pendingRoute = some { a := settingOf s (zoneA m), b := settingOf s (zoneB m) } ∧
      ((s.fieldModule m).sensed = .beacon → (moduleReturns s m).flc.alert = some (outputWord s))) ∧
    ((s.fieldModule m).state = .mismatch ∨ (s.fieldModule m).state = .absent →
      exec (.pollAnswer address a b) s = .next (finish (endExchange s m .poll)))) ∧
  (∀ (s : State) (z : ZoneId), (∀ r, takeStatus s z (.load r) = s.modZone z fun d => { d with load := some r }) ∧
    (∀ f, takeStatus s z (.fault f) = latchFault s z f))

/-- An attempt that times out, breaks off or is answered wrongly is repeated once with the same frame. The second failure ends
the exchange: a PRESENT module becomes MISSING without routes and both its zones get NO REPLY; a MISSING or ABSENT one, and a
MISMATCH one with a configured type, stay as they are. With no exchange awaiting an answer nothing happens, and stray bytes
never do anything. A wrong address is a failed attempt: assumption 21. -/
def Obligations.FailedAttemptsAreRepeatedOnce : Prop :=
  (∀ (s : State) (m : ModuleId) (x : Exchange), s.flc.line = .exchange m x false →
    let t := { s with flc := { s.flc with line := .exchange m x true } }
    exec .answerTimeout s = .next t ∧ (∀ f, exec (.answerGap f) s = .next t) ∧ (∀ f, exec (.invalidAnswer f) s = .next t) ∧
    (∀ a k r, a.toNat ≠ m.val → exec (.identifyAnswer a k r) s = .next t) ∧
    (∀ a p q, a.toNat ≠ m.val → exec (.routeAnswer a p q) s = .next t) ∧
    (∀ a p q, a.toNat ≠ m.val → exec (.pollAnswer a p q) s = .next t)) ∧
  (∀ (s : State) (m : ModuleId) (x : Exchange), s.flc.line = .exchange m x true →
    (∀ f, exec (.answerGap f) s = exec .answerTimeout s ∧ exec (.invalidAnswer f) s = exec .answerTimeout s) ∧
    ((s.fieldModule m).state = .present →
      ∃ t, exec .answerTimeout s = .next t ∧ (t.fieldModule m).state = .missing ∧
        (t.fieldModule m).appliedRoute = none ∧ (t.fieldModule m).pendingRoute = none ∧ t.flc.line ≠ .free ∧
        ∀ z, z = zoneA m ∨ z = zoneB m →
          (t.zone z).fault = some .noReply ∧ (t.zone z).service ≠ .inService ∧ (t.zone z).kind = (s.zone z).kind) ∧
    ((s.fieldModule m).state = .missing ∨ (s.fieldModule m).state = .absent ∨
        ((s.fieldModule m).state = .mismatch ∧ (s.fieldModule m).configured ≠ .none) →
      exec .answerTimeout s = .next (finish (endExchange s m x))) ∧
    ((s.fieldModule m).state = .mismatch → (s.fieldModule m).configured = .none →
      ∃ t, exec .answerTimeout s = .next t ∧ (t.fieldModule m).state = .absent ∧ (t.fieldModule m).sensed = .none ∧
        (t.fieldModule m).revision = none ∧
        ∀ z, z = zoneA m ∨ z = zoneB m → (t.zone z).fault ≠ some .typeMismatch ∧ (t.zone z).kind = (s.zone z).kind)) ∧
  (∀ (s : State), (∀ m x b, s.flc.line ≠ .exchange m x b) →
    exec .answerTimeout s = .next s ∧ (∀ f, exec (.answerGap f) s = .next s) ∧ (∀ f, exec (.invalidAnswer f) s = .next s)) ∧
  (∀ (s : State) (f : List Byte), exec (.strayFieldLineBytes f) s = .next s)

/-- When an ALERT has been sent, and 15 ms after a warm restart, the line is free and chooses: a pending alert broadcast first,
otherwise the lowest PRESENT module's pending route, otherwise the scan. The scan sends a POLL to a PRESENT or MISSING module at
its position and an IDENTIFY to a MISMATCH one, and to an ABSENT one when the scan counter is 0; otherwise it walks past the
ABSENT modules to the next that is not, and on past address 23 into the next scan, whose counter is one higher, or 0 after 15,
when address 0 is next whatever its state. With every module ABSENT the walk ends at address 0 in the scan whose counter is 0.
Where the scan position stands is assumption 30. -/
def Obligations.TheFreeLineTakesItsNextExchange : Prop :=
  ∀ (c : Instr) (s : State),
    ((c = .alertSent ∧ ∃ w, s.flc.line = .alert w) ∨ (c = .fieldLineRestartHoldoff ∧ s.flc.line = .holdoff)) →
    (∀ w, s.flc.alert = some w →
      exec c s = .next (finish { s with flc := { s.flc with alert := none, line := .alert w } })) ∧
    (∀ m r, s.flc.alert = none → (s.fieldModule m).state = .present → (s.fieldModule m).pendingRoute = some r →
      (∀ n, n < m → ¬ ((s.fieldModule n).state = .present ∧ (s.fieldModule n).pendingRoute ≠ none)) →
      ∃ t, exec c s = .next t ∧ t.flc.line = .exchange m (.route r) false ∧
        t.fieldModule m = { s.fieldModule m with pendingRoute := none } ∧
        (∀ n, n ≠ m → t.fieldModule n = s.fieldModule n) ∧ t.flc.zones = s.flc.zones ∧ t.flc.scanPos = s.flc.scanPos ∧
        t.flc.scanCounter = s.flc.scanCounter) ∧
    (s.flc.alert = none →
      (∀ m, ¬ ((s.fieldModule m).state = .present ∧ (s.fieldModule m).pendingRoute ≠ none)) →
      ((s.fieldModule s.flc.scanPos).state = .present ∨ (s.fieldModule s.flc.scanPos).state = .missing →
        exec c s = .next (finish { s with flc := { s.flc with line := .exchange s.flc.scanPos .poll false } })) ∧
      ((s.fieldModule s.flc.scanPos).state = .mismatch ∨
          ((s.fieldModule s.flc.scanPos).state = .absent ∧ s.flc.scanCounter = 0) →
        exec c s = .next (finish { s with flc := { s.flc with line := .exchange s.flc.scanPos .identify false } })) ∧
      (let next (m : ModuleId) : Exchange :=
         if (s.fieldModule m).state = .present ∨ (s.fieldModule m).state = .missing then .poll else .identify
       let sends (m : ModuleId) (n : Nat) : State :=
         { s with flc := { s.flc with line := .exchange m (next m) false, scanPos := m, scanCounter := n } }
       s.flc.scanCounter ≠ 0 →
       (∀ m, s.flc.scanPos ≤ m → (∀ n, s.flc.scanPos ≤ n → n < m → (s.fieldModule n).state = .absent) →
         (s.fieldModule m).state ≠ .absent → exec c s = .next (finish (sends m s.flc.scanCounter))) ∧
       ((∀ n, s.flc.scanPos ≤ n → (s.fieldModule n).state = .absent) →
         (15 ≤ s.flc.scanCounter → exec c s = .next (finish (sends 0 0))) ∧
         (∀ m, s.flc.scanCounter < 15 → (∀ n, n < m → (s.fieldModule n).state = .absent) →
           (s.fieldModule m).state ≠ .absent → exec c s = .next (finish (sends m (s.flc.scanCounter + 1)))) ∧
         ((∀ n, (s.fieldModule n).state = .absent) → exec c s = .next (finish (sends 0 0))))))
end

