-- ==== Sys2Proof/Laws/State.lean ====
section
/-!
SUPPORT. What each update of a record does to every field of the state: the other blocks and the other tables are as they were
(true by definition), the record itself is changed, and the other records of its table are not.
-/

namespace Sys2Proof.Machine

/-! ## One entry of a table -/

theorem upd_same {α : Type} {n : Nat} (v : Vector α n) (i : Fin n) (f : α → α) : (upd v i f)[i] = f v[i] := by
  simp [upd]

theorem upd_ne {α : Type} {n : Nat} (v : Vector α n) {i j : Fin n} (f : α → α) (h : j ≠ i) : (upd v i f)[j] = v[j] := by
  have hv : i.val ≠ j.val := fun e => h (Fin.ext e.symm)
  simp [upd, hv]

theorem upd_apply {α : Type} {n : Nat} (v : Vector α n) (i j : Fin n) (f : α → α) :
    (upd v i f)[j] = if j = i then f v[i] else v[j] := by
  by_cases h : j = i
  · subst h; rw [upd_same, if_pos rfl]
  · rw [upd_ne v f h, if_neg h]

/-- A change that leaves the entry as it is leaves the table as it is. -/
theorem upd_id {α : Type} {n : Nat} (v : Vector α n) (i : Fin n) (f : α → α) (h : f v[i] = v[i]) : upd v i f = v := by
  ext k hk
  by_cases hi : i.val = k
  · subst hi; simpa [upd] using h
  · simp [upd, hi]

/-- Two changes of one entry are one. -/
theorem upd_upd {α : Type} {n : Nat} (v : Vector α n) (i : Fin n) (f g : α → α) :
    upd (upd v i f) i g = upd v i (fun x => g (f x)) := by
  simp [upd]

theorem tabulate_get {α : Type} {n : Nat} (f : Fin n → α) (i : Fin n) : (tabulate n f)[i] = f i := by
  simp [tabulate]

theorem mapTable_get {α β : Type} {n : Nat} (f : α → β) (v : Vector α n) (i : Fin n) :
    (mapTable f v)[i] = f v[i] := tabulate_get _ i

/-- A view of a table does not see a change that keeps the view of the entry. -/
theorem mapTable_upd {α β : Type} {n : Nat} (g : α → β) (v : Vector α n) (i : Fin n) (f : α → α) (h : ∀ x, g (f x) = g x) :
    mapTable g (upd v i f) = mapTable g v := by
  apply Vector.ext
  intro k hk
  have e := mapTable_get g (upd v i f) ⟨k, hk⟩
  have e' := mapTable_get g v ⟨k, hk⟩
  simp only [Fin.getElem_fin] at e e'
  rw [e, e']
  have u := upd_apply v i ⟨k, hk⟩ f
  simp only [Fin.getElem_fin] at u
  rw [u]
  by_cases hi : (⟨k, hk⟩ : Fin n) = i
  · subst hi; simp [h]
  · simp [hi]

namespace State

/-! ## The other fields -/

@[simp] theorem modStation_de (s : State) (i : StationId) (f : Station → Station) : (s.modStation i f).de = s.de := rfl
@[simp] theorem modStation_ppu (s : State) (i : StationId) (f : Station → Station) : (s.modStation i f).ppu = s.ppu := rfl
@[simp] theorem modStation_pdir (s : State) (i : StationId) (f : Station → Station) : (s.modStation i f).pdir = s.pdir := rfl
@[simp] theorem modStation_pgc (s : State) (i : StationId) (f : Station → Station) : (s.modStation i f).pgc = s.pgc := rfl
@[simp] theorem modStation_ag (s : State) (i : StationId) (f : Station → Station) : (s.modStation i f).ag = s.ag := rfl
@[simp] theorem modStation_flc (s : State) (i : StationId) (f : Station → Station) : (s.modStation i f).flc = s.flc := rfl
@[simp] theorem modStation_cs (s : State) (i : StationId) (f : Station → Station) : (s.modStation i f).cs = s.cs := rfl
@[simp] theorem modStation_cl (s : State) (i : StationId) (f : Station → Station) : (s.modStation i f).cl = s.cl := rfl
@[simp] theorem modStation_pending (s : State) (i : StationId) (f : Station → Station) : (s.modStation i f).pending = s.pending := rfl
@[simp] theorem modStation_call (s : State) (i : StationId) (f : Station → Station) (j : CallId) : (s.modStation i f).call j = s.call j := rfl
@[simp] theorem modStation_group (s : State) (i : StationId) (f : Station → Station) (j : GroupId) : (s.modStation i f).group j = s.group j := rfl
@[simp] theorem modStation_pickup (s : State) (i : StationId) (f : Station → Station) (j : PickupId) : (s.modStation i f).pickup j = s.pickup j := rfl
@[simp] theorem modStation_cls (s : State) (i : StationId) (f : Station → Station) (j : ClassId) : (s.modStation i f).cls j = s.cls j := rfl
@[simp] theorem modStation_orbit (s : State) (i : StationId) (f : Station → Station) (j : OrbitId) : (s.modStation i f).orbit j = s.orbit j := rfl
@[simp] theorem modStation_directory (s : State) (i : StationId) (f : Station → Station) (j : DirectoryId) : (s.modStation i f).directory j = s.directory j := rfl
@[simp] theorem modStation_entry (s : State) (i : StationId) (f : Station → Station) (j : EntryId) : (s.modStation i f).entry j = s.entry j := rfl
@[simp] theorem modStation_pageGroup (s : State) (i : StationId) (f : Station → Station) (j : PageGroupId) : (s.modStation i f).pageGroup j = s.pageGroup j := rfl
@[simp] theorem modStation_page (s : State) (i : StationId) (f : Station → Station) (j : PageId) : (s.modStation i f).page j = s.page j := rfl
@[simp] theorem modStation_bus (s : State) (i : StationId) (f : Station → Station) (j : BusId) : (s.modStation i f).bus j = s.bus j := rfl
@[simp] theorem modStation_channel (s : State) (i : StationId) (f : Station → Station) (j : ChannelId) : (s.modStation i f).channel j = s.channel j := rfl
@[simp] theorem modStation_fieldModule (s : State) (i : StationId) (f : Station → Station) (j : ModuleId) : (s.modStation i f).fieldModule j = s.fieldModule j := rfl
@[simp] theorem modStation_zone (s : State) (i : StationId) (f : Station → Station) (j : ZoneId) : (s.modStation i f).zone j = s.zone j := rfl
@[simp] theorem modStation_now (s : State) (i : StationId) (f : Station → Station) : (s.modStation i f).now = s.now := rfl

@[simp] theorem modCall_de (s : State) (i : CallId) (f : Call → Call) : (s.modCall i f).de = s.de := rfl
@[simp] theorem modCall_ppu (s : State) (i : CallId) (f : Call → Call) : (s.modCall i f).ppu = s.ppu := rfl
@[simp] theorem modCall_pdir (s : State) (i : CallId) (f : Call → Call) : (s.modCall i f).pdir = s.pdir := rfl
@[simp] theorem modCall_pgc (s : State) (i : CallId) (f : Call → Call) : (s.modCall i f).pgc = s.pgc := rfl
@[simp] theorem modCall_ag (s : State) (i : CallId) (f : Call → Call) : (s.modCall i f).ag = s.ag := rfl
@[simp] theorem modCall_flc (s : State) (i : CallId) (f : Call → Call) : (s.modCall i f).flc = s.flc := rfl
@[simp] theorem modCall_cs (s : State) (i : CallId) (f : Call → Call) : (s.modCall i f).cs = s.cs := rfl
@[simp] theorem modCall_cl (s : State) (i : CallId) (f : Call → Call) : (s.modCall i f).cl = s.cl := rfl
@[simp] theorem modCall_pending (s : State) (i : CallId) (f : Call → Call) : (s.modCall i f).pending = s.pending := rfl
@[simp] theorem modCall_station (s : State) (i : CallId) (f : Call → Call) (j : StationId) : (s.modCall i f).station j = s.station j := rfl
@[simp] theorem modCall_group (s : State) (i : CallId) (f : Call → Call) (j : GroupId) : (s.modCall i f).group j = s.group j := rfl
@[simp] theorem modCall_pickup (s : State) (i : CallId) (f : Call → Call) (j : PickupId) : (s.modCall i f).pickup j = s.pickup j := rfl
@[simp] theorem modCall_cls (s : State) (i : CallId) (f : Call → Call) (j : ClassId) : (s.modCall i f).cls j = s.cls j := rfl
@[simp] theorem modCall_orbit (s : State) (i : CallId) (f : Call → Call) (j : OrbitId) : (s.modCall i f).orbit j = s.orbit j := rfl
@[simp] theorem modCall_directory (s : State) (i : CallId) (f : Call → Call) (j : DirectoryId) : (s.modCall i f).directory j = s.directory j := rfl
@[simp] theorem modCall_entry (s : State) (i : CallId) (f : Call → Call) (j : EntryId) : (s.modCall i f).entry j = s.entry j := rfl
@[simp] theorem modCall_pageGroup (s : State) (i : CallId) (f : Call → Call) (j : PageGroupId) : (s.modCall i f).pageGroup j = s.pageGroup j := rfl
@[simp] theorem modCall_page (s : State) (i : CallId) (f : Call → Call) (j : PageId) : (s.modCall i f).page j = s.page j := rfl
@[simp] theorem modCall_bus (s : State) (i : CallId) (f : Call → Call) (j : BusId) : (s.modCall i f).bus j = s.bus j := rfl
@[simp] theorem modCall_channel (s : State) (i : CallId) (f : Call → Call) (j : ChannelId) : (s.modCall i f).channel j = s.channel j := rfl
@[simp] theorem modCall_fieldModule (s : State) (i : CallId) (f : Call → Call) (j : ModuleId) : (s.modCall i f).fieldModule j = s.fieldModule j := rfl
@[simp] theorem modCall_zone (s : State) (i : CallId) (f : Call → Call) (j : ZoneId) : (s.modCall i f).zone j = s.zone j := rfl
@[simp] theorem modCall_now (s : State) (i : CallId) (f : Call → Call) : (s.modCall i f).now = s.now := rfl

@[simp] theorem modGroup_sct (s : State) (i : GroupId) (f : Group → Group) : (s.modGroup i f).sct = s.sct := rfl
@[simp] theorem modGroup_ppu (s : State) (i : GroupId) (f : Group → Group) : (s.modGroup i f).ppu = s.ppu := rfl
@[simp] theorem modGroup_pdir (s : State) (i : GroupId) (f : Group → Group) : (s.modGroup i f).pdir = s.pdir := rfl
@[simp] theorem modGroup_pgc (s : State) (i : GroupId) (f : Group → Group) : (s.modGroup i f).pgc = s.pgc := rfl
@[simp] theorem modGroup_ag (s : State) (i : GroupId) (f : Group → Group) : (s.modGroup i f).ag = s.ag := rfl
@[simp] theorem modGroup_flc (s : State) (i : GroupId) (f : Group → Group) : (s.modGroup i f).flc = s.flc := rfl
@[simp] theorem modGroup_cs (s : State) (i : GroupId) (f : Group → Group) : (s.modGroup i f).cs = s.cs := rfl
@[simp] theorem modGroup_cl (s : State) (i : GroupId) (f : Group → Group) : (s.modGroup i f).cl = s.cl := rfl
@[simp] theorem modGroup_pending (s : State) (i : GroupId) (f : Group → Group) : (s.modGroup i f).pending = s.pending := rfl
@[simp] theorem modGroup_station (s : State) (i : GroupId) (f : Group → Group) (j : StationId) : (s.modGroup i f).station j = s.station j := rfl
@[simp] theorem modGroup_call (s : State) (i : GroupId) (f : Group → Group) (j : CallId) : (s.modGroup i f).call j = s.call j := rfl
@[simp] theorem modGroup_pickup (s : State) (i : GroupId) (f : Group → Group) (j : PickupId) : (s.modGroup i f).pickup j = s.pickup j := rfl
@[simp] theorem modGroup_cls (s : State) (i : GroupId) (f : Group → Group) (j : ClassId) : (s.modGroup i f).cls j = s.cls j := rfl
@[simp] theorem modGroup_orbit (s : State) (i : GroupId) (f : Group → Group) (j : OrbitId) : (s.modGroup i f).orbit j = s.orbit j := rfl
@[simp] theorem modGroup_directory (s : State) (i : GroupId) (f : Group → Group) (j : DirectoryId) : (s.modGroup i f).directory j = s.directory j := rfl
@[simp] theorem modGroup_entry (s : State) (i : GroupId) (f : Group → Group) (j : EntryId) : (s.modGroup i f).entry j = s.entry j := rfl
@[simp] theorem modGroup_pageGroup (s : State) (i : GroupId) (f : Group → Group) (j : PageGroupId) : (s.modGroup i f).pageGroup j = s.pageGroup j := rfl
@[simp] theorem modGroup_page (s : State) (i : GroupId) (f : Group → Group) (j : PageId) : (s.modGroup i f).page j = s.page j := rfl
@[simp] theorem modGroup_bus (s : State) (i : GroupId) (f : Group → Group) (j : BusId) : (s.modGroup i f).bus j = s.bus j := rfl
@[simp] theorem modGroup_channel (s : State) (i : GroupId) (f : Group → Group) (j : ChannelId) : (s.modGroup i f).channel j = s.channel j := rfl
@[simp] theorem modGroup_fieldModule (s : State) (i : GroupId) (f : Group → Group) (j : ModuleId) : (s.modGroup i f).fieldModule j = s.fieldModule j := rfl
@[simp] theorem modGroup_zone (s : State) (i : GroupId) (f : Group → Group) (j : ZoneId) : (s.modGroup i f).zone j = s.zone j := rfl
@[simp] theorem modGroup_now (s : State) (i : GroupId) (f : Group → Group) : (s.modGroup i f).now = s.now := rfl

@[simp] theorem modPickup_sct (s : State) (i : PickupId) (f : PickupGroup → PickupGroup) : (s.modPickup i f).sct = s.sct := rfl
@[simp] theorem modPickup_de (s : State) (i : PickupId) (f : PickupGroup → PickupGroup) : (s.modPickup i f).de = s.de := rfl
@[simp] theorem modPickup_pdir (s : State) (i : PickupId) (f : PickupGroup → PickupGroup) : (s.modPickup i f).pdir = s.pdir := rfl
@[simp] theorem modPickup_pgc (s : State) (i : PickupId) (f : PickupGroup → PickupGroup) : (s.modPickup i f).pgc = s.pgc := rfl
@[simp] theorem modPickup_ag (s : State) (i : PickupId) (f : PickupGroup → PickupGroup) : (s.modPickup i f).ag = s.ag := rfl
@[simp] theorem modPickup_flc (s : State) (i : PickupId) (f : PickupGroup → PickupGroup) : (s.modPickup i f).flc = s.flc := rfl
@[simp] theorem modPickup_cs (s : State) (i : PickupId) (f : PickupGroup → PickupGroup) : (s.modPickup i f).cs = s.cs := rfl
@[simp] theorem modPickup_cl (s : State) (i : PickupId) (f : PickupGroup → PickupGroup) : (s.modPickup i f).cl = s.cl := rfl
@[simp] theorem modPickup_pending (s : State) (i : PickupId) (f : PickupGroup → PickupGroup) : (s.modPickup i f).pending = s.pending := rfl
@[simp] theorem modPickup_station (s : State) (i : PickupId) (f : PickupGroup → PickupGroup) (j : StationId) : (s.modPickup i f).station j = s.station j := rfl
@[simp] theorem modPickup_call (s : State) (i : PickupId) (f : PickupGroup → PickupGroup) (j : CallId) : (s.modPickup i f).call j = s.call j := rfl
@[simp] theorem modPickup_group (s : State) (i : PickupId) (f : PickupGroup → PickupGroup) (j : GroupId) : (s.modPickup i f).group j = s.group j := rfl
@[simp] theorem modPickup_cls (s : State) (i : PickupId) (f : PickupGroup → PickupGroup) (j : ClassId) : (s.modPickup i f).cls j = s.cls j := rfl
@[simp] theorem modPickup_orbit (s : State) (i : PickupId) (f : PickupGroup → PickupGroup) (j : OrbitId) : (s.modPickup i f).orbit j = s.orbit j := rfl
@[simp] theorem modPickup_directory (s : State) (i : PickupId) (f : PickupGroup → PickupGroup) (j : DirectoryId) : (s.modPickup i f).directory j = s.directory j := rfl
@[simp] theorem modPickup_entry (s : State) (i : PickupId) (f : PickupGroup → PickupGroup) (j : EntryId) : (s.modPickup i f).entry j = s.entry j := rfl
@[simp] theorem modPickup_pageGroup (s : State) (i : PickupId) (f : PickupGroup → PickupGroup) (j : PageGroupId) : (s.modPickup i f).pageGroup j = s.pageGroup j := rfl
@[simp] theorem modPickup_page (s : State) (i : PickupId) (f : PickupGroup → PickupGroup) (j : PageId) : (s.modPickup i f).page j = s.page j := rfl
@[simp] theorem modPickup_bus (s : State) (i : PickupId) (f : PickupGroup → PickupGroup) (j : BusId) : (s.modPickup i f).bus j = s.bus j := rfl
@[simp] theorem modPickup_channel (s : State) (i : PickupId) (f : PickupGroup → PickupGroup) (j : ChannelId) : (s.modPickup i f).channel j = s.channel j := rfl
@[simp] theorem modPickup_fieldModule (s : State) (i : PickupId) (f : PickupGroup → PickupGroup) (j : ModuleId) : (s.modPickup i f).fieldModule j = s.fieldModule j := rfl
@[simp] theorem modPickup_zone (s : State) (i : PickupId) (f : PickupGroup → PickupGroup) (j : ZoneId) : (s.modPickup i f).zone j = s.zone j := rfl
@[simp] theorem modPickup_now (s : State) (i : PickupId) (f : PickupGroup → PickupGroup) : (s.modPickup i f).now = s.now := rfl
@[simp] theorem modPickup_freeOrder (s : State) (i : PickupId) (f : PickupGroup → PickupGroup) : (s.modPickup i f).ppu.freeOrder = s.ppu.freeOrder := rfl

@[simp] theorem modClass_sct (s : State) (i : ClassId) (f : ServiceClass → ServiceClass) : (s.modClass i f).sct = s.sct := rfl
@[simp] theorem modClass_de (s : State) (i : ClassId) (f : ServiceClass → ServiceClass) : (s.modClass i f).de = s.de := rfl
@[simp] theorem modClass_pdir (s : State) (i : ClassId) (f : ServiceClass → ServiceClass) : (s.modClass i f).pdir = s.pdir := rfl
@[simp] theorem modClass_pgc (s : State) (i : ClassId) (f : ServiceClass → ServiceClass) : (s.modClass i f).pgc = s.pgc := rfl
@[simp] theorem modClass_ag (s : State) (i : ClassId) (f : ServiceClass → ServiceClass) : (s.modClass i f).ag = s.ag := rfl
@[simp] theorem modClass_flc (s : State) (i : ClassId) (f : ServiceClass → ServiceClass) : (s.modClass i f).flc = s.flc := rfl
@[simp] theorem modClass_cs (s : State) (i : ClassId) (f : ServiceClass → ServiceClass) : (s.modClass i f).cs = s.cs := rfl
@[simp] theorem modClass_cl (s : State) (i : ClassId) (f : ServiceClass → ServiceClass) : (s.modClass i f).cl = s.cl := rfl
@[simp] theorem modClass_pending (s : State) (i : ClassId) (f : ServiceClass → ServiceClass) : (s.modClass i f).pending = s.pending := rfl
@[simp] theorem modClass_station (s : State) (i : ClassId) (f : ServiceClass → ServiceClass) (j : StationId) : (s.modClass i f).station j = s.station j := rfl
@[simp] theorem modClass_call (s : State) (i : ClassId) (f : ServiceClass → ServiceClass) (j : CallId) : (s.modClass i f).call j = s.call j := rfl
@[simp] theorem modClass_group (s : State) (i : ClassId) (f : ServiceClass → ServiceClass) (j : GroupId) : (s.modClass i f).group j = s.group j := rfl
@[simp] theorem modClass_pickup (s : State) (i : ClassId) (f : ServiceClass → ServiceClass) (j : PickupId) : (s.modClass i f).pickup j = s.pickup j := rfl
@[simp] theorem modClass_orbit (s : State) (i : ClassId) (f : ServiceClass → ServiceClass) (j : OrbitId) : (s.modClass i f).orbit j = s.orbit j := rfl
@[simp] theorem modClass_directory (s : State) (i : ClassId) (f : ServiceClass → ServiceClass) (j : DirectoryId) : (s.modClass i f).directory j = s.directory j := rfl
@[simp] theorem modClass_entry (s : State) (i : ClassId) (f : ServiceClass → ServiceClass) (j : EntryId) : (s.modClass i f).entry j = s.entry j := rfl
@[simp] theorem modClass_pageGroup (s : State) (i : ClassId) (f : ServiceClass → ServiceClass) (j : PageGroupId) : (s.modClass i f).pageGroup j = s.pageGroup j := rfl
@[simp] theorem modClass_page (s : State) (i : ClassId) (f : ServiceClass → ServiceClass) (j : PageId) : (s.modClass i f).page j = s.page j := rfl
@[simp] theorem modClass_bus (s : State) (i : ClassId) (f : ServiceClass → ServiceClass) (j : BusId) : (s.modClass i f).bus j = s.bus j := rfl
@[simp] theorem modClass_channel (s : State) (i : ClassId) (f : ServiceClass → ServiceClass) (j : ChannelId) : (s.modClass i f).channel j = s.channel j := rfl
@[simp] theorem modClass_fieldModule (s : State) (i : ClassId) (f : ServiceClass → ServiceClass) (j : ModuleId) : (s.modClass i f).fieldModule j = s.fieldModule j := rfl
@[simp] theorem modClass_zone (s : State) (i : ClassId) (f : ServiceClass → ServiceClass) (j : ZoneId) : (s.modClass i f).zone j = s.zone j := rfl
@[simp] theorem modClass_now (s : State) (i : ClassId) (f : ServiceClass → ServiceClass) : (s.modClass i f).now = s.now := rfl
@[simp] theorem modClass_freeOrder (s : State) (i : ClassId) (f : ServiceClass → ServiceClass) : (s.modClass i f).ppu.freeOrder = s.ppu.freeOrder := rfl

@[simp] theorem modOrbit_sct (s : State) (i : OrbitId) (f : Orbit → Orbit) : (s.modOrbit i f).sct = s.sct := rfl
@[simp] theorem modOrbit_de (s : State) (i : OrbitId) (f : Orbit → Orbit) : (s.modOrbit i f).de = s.de := rfl
@[simp] theorem modOrbit_pdir (s : State) (i : OrbitId) (f : Orbit → Orbit) : (s.modOrbit i f).pdir = s.pdir := rfl
@[simp] theorem modOrbit_pgc (s : State) (i : OrbitId) (f : Orbit → Orbit) : (s.modOrbit i f).pgc = s.pgc := rfl
@[simp] theorem modOrbit_ag (s : State) (i : OrbitId) (f : Orbit → Orbit) : (s.modOrbit i f).ag = s.ag := rfl
@[simp] theorem modOrbit_flc (s : State) (i : OrbitId) (f : Orbit → Orbit) : (s.modOrbit i f).flc = s.flc := rfl
@[simp] theorem modOrbit_cs (s : State) (i : OrbitId) (f : Orbit → Orbit) : (s.modOrbit i f).cs = s.cs := rfl
@[simp] theorem modOrbit_cl (s : State) (i : OrbitId) (f : Orbit → Orbit) : (s.modOrbit i f).cl = s.cl := rfl
@[simp] theorem modOrbit_pending (s : State) (i : OrbitId) (f : Orbit → Orbit) : (s.modOrbit i f).pending = s.pending := rfl
@[simp] theorem modOrbit_station (s : State) (i : OrbitId) (f : Orbit → Orbit) (j : StationId) : (s.modOrbit i f).station j = s.station j := rfl
@[simp] theorem modOrbit_call (s : State) (i : OrbitId) (f : Orbit → Orbit) (j : CallId) : (s.modOrbit i f).call j = s.call j := rfl
@[simp] theorem modOrbit_group (s : State) (i : OrbitId) (f : Orbit → Orbit) (j : GroupId) : (s.modOrbit i f).group j = s.group j := rfl
@[simp] theorem modOrbit_pickup (s : State) (i : OrbitId) (f : Orbit → Orbit) (j : PickupId) : (s.modOrbit i f).pickup j = s.pickup j := rfl
@[simp] theorem modOrbit_cls (s : State) (i : OrbitId) (f : Orbit → Orbit) (j : ClassId) : (s.modOrbit i f).cls j = s.cls j := rfl
@[simp] theorem modOrbit_directory (s : State) (i : OrbitId) (f : Orbit → Orbit) (j : DirectoryId) : (s.modOrbit i f).directory j = s.directory j := rfl
@[simp] theorem modOrbit_entry (s : State) (i : OrbitId) (f : Orbit → Orbit) (j : EntryId) : (s.modOrbit i f).entry j = s.entry j := rfl
@[simp] theorem modOrbit_pageGroup (s : State) (i : OrbitId) (f : Orbit → Orbit) (j : PageGroupId) : (s.modOrbit i f).pageGroup j = s.pageGroup j := rfl
@[simp] theorem modOrbit_page (s : State) (i : OrbitId) (f : Orbit → Orbit) (j : PageId) : (s.modOrbit i f).page j = s.page j := rfl
@[simp] theorem modOrbit_bus (s : State) (i : OrbitId) (f : Orbit → Orbit) (j : BusId) : (s.modOrbit i f).bus j = s.bus j := rfl
@[simp] theorem modOrbit_channel (s : State) (i : OrbitId) (f : Orbit → Orbit) (j : ChannelId) : (s.modOrbit i f).channel j = s.channel j := rfl
@[simp] theorem modOrbit_fieldModule (s : State) (i : OrbitId) (f : Orbit → Orbit) (j : ModuleId) : (s.modOrbit i f).fieldModule j = s.fieldModule j := rfl
@[simp] theorem modOrbit_zone (s : State) (i : OrbitId) (f : Orbit → Orbit) (j : ZoneId) : (s.modOrbit i f).zone j = s.zone j := rfl
@[simp] theorem modOrbit_now (s : State) (i : OrbitId) (f : Orbit → Orbit) : (s.modOrbit i f).now = s.now := rfl
@[simp] theorem modOrbit_freeOrder (s : State) (i : OrbitId) (f : Orbit → Orbit) : (s.modOrbit i f).ppu.freeOrder = s.ppu.freeOrder := rfl

@[simp] theorem modDirectory_sct (s : State) (i : DirectoryId) (f : Directory → Directory) : (s.modDirectory i f).sct = s.sct := rfl
@[simp] theorem modDirectory_de (s : State) (i : DirectoryId) (f : Directory → Directory) : (s.modDirectory i f).de = s.de := rfl
@[simp] theorem modDirectory_ppu (s : State) (i : DirectoryId) (f : Directory → Directory) : (s.modDirectory i f).ppu = s.ppu := rfl
@[simp] theorem modDirectory_pgc (s : State) (i : DirectoryId) (f : Directory → Directory) : (s.modDirectory i f).pgc = s.pgc := rfl
@[simp] theorem modDirectory_ag (s : State) (i : DirectoryId) (f : Directory → Directory) : (s.modDirectory i f).ag = s.ag := rfl
@[simp] theorem modDirectory_flc (s : State) (i : DirectoryId) (f : Directory → Directory) : (s.modDirectory i f).flc = s.flc := rfl
@[simp] theorem modDirectory_cs (s : State) (i : DirectoryId) (f : Directory → Directory) : (s.modDirectory i f).cs = s.cs := rfl
@[simp] theorem modDirectory_cl (s : State) (i : DirectoryId) (f : Directory → Directory) : (s.modDirectory i f).cl = s.cl := rfl
@[simp] theorem modDirectory_pending (s : State) (i : DirectoryId) (f : Directory → Directory) : (s.modDirectory i f).pending = s.pending := rfl
@[simp] theorem modDirectory_station (s : State) (i : DirectoryId) (f : Directory → Directory) (j : StationId) : (s.modDirectory i f).station j = s.station j := rfl
@[simp] theorem modDirectory_call (s : State) (i : DirectoryId) (f : Directory → Directory) (j : CallId) : (s.modDirectory i f).call j = s.call j := rfl
@[simp] theorem modDirectory_group (s : State) (i : DirectoryId) (f : Directory → Directory) (j : GroupId) : (s.modDirectory i f).group j = s.group j := rfl
@[simp] theorem modDirectory_pickup (s : State) (i : DirectoryId) (f : Directory → Directory) (j : PickupId) : (s.modDirectory i f).pickup j = s.pickup j := rfl
@[simp] theorem modDirectory_cls (s : State) (i : DirectoryId) (f : Directory → Directory) (j : ClassId) : (s.modDirectory i f).cls j = s.cls j := rfl
@[simp] theorem modDirectory_orbit (s : State) (i : DirectoryId) (f : Directory → Directory) (j : OrbitId) : (s.modDirectory i f).orbit j = s.orbit j := rfl
@[simp] theorem modDirectory_entry (s : State) (i : DirectoryId) (f : Directory → Directory) (j : EntryId) : (s.modDirectory i f).entry j = s.entry j := rfl
@[simp] theorem modDirectory_pageGroup (s : State) (i : DirectoryId) (f : Directory → Directory) (j : PageGroupId) : (s.modDirectory i f).pageGroup j = s.pageGroup j := rfl
@[simp] theorem modDirectory_page (s : State) (i : DirectoryId) (f : Directory → Directory) (j : PageId) : (s.modDirectory i f).page j = s.page j := rfl
@[simp] theorem modDirectory_bus (s : State) (i : DirectoryId) (f : Directory → Directory) (j : BusId) : (s.modDirectory i f).bus j = s.bus j := rfl
@[simp] theorem modDirectory_channel (s : State) (i : DirectoryId) (f : Directory → Directory) (j : ChannelId) : (s.modDirectory i f).channel j = s.channel j := rfl
@[simp] theorem modDirectory_fieldModule (s : State) (i : DirectoryId) (f : Directory → Directory) (j : ModuleId) : (s.modDirectory i f).fieldModule j = s.fieldModule j := rfl
@[simp] theorem modDirectory_zone (s : State) (i : DirectoryId) (f : Directory → Directory) (j : ZoneId) : (s.modDirectory i f).zone j = s.zone j := rfl
@[simp] theorem modDirectory_now (s : State) (i : DirectoryId) (f : Directory → Directory) : (s.modDirectory i f).now = s.now := rfl

@[simp] theorem modEntry_sct (s : State) (i : EntryId) (f : CodeEntry → CodeEntry) : (s.modEntry i f).sct = s.sct := rfl
@[simp] theorem modEntry_de (s : State) (i : EntryId) (f : CodeEntry → CodeEntry) : (s.modEntry i f).de = s.de := rfl
@[simp] theorem modEntry_ppu (s : State) (i : EntryId) (f : CodeEntry → CodeEntry) : (s.modEntry i f).ppu = s.ppu := rfl
@[simp] theorem modEntry_pgc (s : State) (i : EntryId) (f : CodeEntry → CodeEntry) : (s.modEntry i f).pgc = s.pgc := rfl
@[simp] theorem modEntry_ag (s : State) (i : EntryId) (f : CodeEntry → CodeEntry) : (s.modEntry i f).ag = s.ag := rfl
@[simp] theorem modEntry_flc (s : State) (i : EntryId) (f : CodeEntry → CodeEntry) : (s.modEntry i f).flc = s.flc := rfl
@[simp] theorem modEntry_cs (s : State) (i : EntryId) (f : CodeEntry → CodeEntry) : (s.modEntry i f).cs = s.cs := rfl
@[simp] theorem modEntry_cl (s : State) (i : EntryId) (f : CodeEntry → CodeEntry) : (s.modEntry i f).cl = s.cl := rfl
@[simp] theorem modEntry_pending (s : State) (i : EntryId) (f : CodeEntry → CodeEntry) : (s.modEntry i f).pending = s.pending := rfl
@[simp] theorem modEntry_station (s : State) (i : EntryId) (f : CodeEntry → CodeEntry) (j : StationId) : (s.modEntry i f).station j = s.station j := rfl
@[simp] theorem modEntry_call (s : State) (i : EntryId) (f : CodeEntry → CodeEntry) (j : CallId) : (s.modEntry i f).call j = s.call j := rfl
@[simp] theorem modEntry_group (s : State) (i : EntryId) (f : CodeEntry → CodeEntry) (j : GroupId) : (s.modEntry i f).group j = s.group j := rfl
@[simp] theorem modEntry_pickup (s : State) (i : EntryId) (f : CodeEntry → CodeEntry) (j : PickupId) : (s.modEntry i f).pickup j = s.pickup j := rfl
@[simp] theorem modEntry_cls (s : State) (i : EntryId) (f : CodeEntry → CodeEntry) (j : ClassId) : (s.modEntry i f).cls j = s.cls j := rfl
@[simp] theorem modEntry_orbit (s : State) (i : EntryId) (f : CodeEntry → CodeEntry) (j : OrbitId) : (s.modEntry i f).orbit j = s.orbit j := rfl
@[simp] theorem modEntry_directory (s : State) (i : EntryId) (f : CodeEntry → CodeEntry) (j : DirectoryId) : (s.modEntry i f).directory j = s.directory j := rfl
@[simp] theorem modEntry_pageGroup (s : State) (i : EntryId) (f : CodeEntry → CodeEntry) (j : PageGroupId) : (s.modEntry i f).pageGroup j = s.pageGroup j := rfl
@[simp] theorem modEntry_page (s : State) (i : EntryId) (f : CodeEntry → CodeEntry) (j : PageId) : (s.modEntry i f).page j = s.page j := rfl
@[simp] theorem modEntry_bus (s : State) (i : EntryId) (f : CodeEntry → CodeEntry) (j : BusId) : (s.modEntry i f).bus j = s.bus j := rfl
@[simp] theorem modEntry_channel (s : State) (i : EntryId) (f : CodeEntry → CodeEntry) (j : ChannelId) : (s.modEntry i f).channel j = s.channel j := rfl
@[simp] theorem modEntry_fieldModule (s : State) (i : EntryId) (f : CodeEntry → CodeEntry) (j : ModuleId) : (s.modEntry i f).fieldModule j = s.fieldModule j := rfl
@[simp] theorem modEntry_zone (s : State) (i : EntryId) (f : CodeEntry → CodeEntry) (j : ZoneId) : (s.modEntry i f).zone j = s.zone j := rfl
@[simp] theorem modEntry_now (s : State) (i : EntryId) (f : CodeEntry → CodeEntry) : (s.modEntry i f).now = s.now := rfl

@[simp] theorem modPageGroup_sct (s : State) (i : PageGroupId) (f : PageGroup → PageGroup) : (s.modPageGroup i f).sct = s.sct := rfl
@[simp] theorem modPageGroup_de (s : State) (i : PageGroupId) (f : PageGroup → PageGroup) : (s.modPageGroup i f).de = s.de := rfl
@[simp] theorem modPageGroup_ppu (s : State) (i : PageGroupId) (f : PageGroup → PageGroup) : (s.modPageGroup i f).ppu = s.ppu := rfl
@[simp] theorem modPageGroup_pgc (s : State) (i : PageGroupId) (f : PageGroup → PageGroup) : (s.modPageGroup i f).pgc = s.pgc := rfl
@[simp] theorem modPageGroup_ag (s : State) (i : PageGroupId) (f : PageGroup → PageGroup) : (s.modPageGroup i f).ag = s.ag := rfl
@[simp] theorem modPageGroup_flc (s : State) (i : PageGroupId) (f : PageGroup → PageGroup) : (s.modPageGroup i f).flc = s.flc := rfl
@[simp] theorem modPageGroup_cs (s : State) (i : PageGroupId) (f : PageGroup → PageGroup) : (s.modPageGroup i f).cs = s.cs := rfl
@[simp] theorem modPageGroup_cl (s : State) (i : PageGroupId) (f : PageGroup → PageGroup) : (s.modPageGroup i f).cl = s.cl := rfl
@[simp] theorem modPageGroup_pending (s : State) (i : PageGroupId) (f : PageGroup → PageGroup) : (s.modPageGroup i f).pending = s.pending := rfl
@[simp] theorem modPageGroup_station (s : State) (i : PageGroupId) (f : PageGroup → PageGroup) (j : StationId) : (s.modPageGroup i f).station j = s.station j := rfl
@[simp] theorem modPageGroup_call (s : State) (i : PageGroupId) (f : PageGroup → PageGroup) (j : CallId) : (s.modPageGroup i f).call j = s.call j := rfl
@[simp] theorem modPageGroup_group (s : State) (i : PageGroupId) (f : PageGroup → PageGroup) (j : GroupId) : (s.modPageGroup i f).group j = s.group j := rfl
@[simp] theorem modPageGroup_pickup (s : State) (i : PageGroupId) (f : PageGroup → PageGroup) (j : PickupId) : (s.modPageGroup i f).pickup j = s.pickup j := rfl
@[simp] theorem modPageGroup_cls (s : State) (i : PageGroupId) (f : PageGroup → PageGroup) (j : ClassId) : (s.modPageGroup i f).cls j = s.cls j := rfl
@[simp] theorem modPageGroup_orbit (s : State) (i : PageGroupId) (f : PageGroup → PageGroup) (j : OrbitId) : (s.modPageGroup i f).orbit j = s.orbit j := rfl
@[simp] theorem modPageGroup_directory (s : State) (i : PageGroupId) (f : PageGroup → PageGroup) (j : DirectoryId) : (s.modPageGroup i f).directory j = s.directory j := rfl
@[simp] theorem modPageGroup_entry (s : State) (i : PageGroupId) (f : PageGroup → PageGroup) (j : EntryId) : (s.modPageGroup i f).entry j = s.entry j := rfl
@[simp] theorem modPageGroup_page (s : State) (i : PageGroupId) (f : PageGroup → PageGroup) (j : PageId) : (s.modPageGroup i f).page j = s.page j := rfl
@[simp] theorem modPageGroup_bus (s : State) (i : PageGroupId) (f : PageGroup → PageGroup) (j : BusId) : (s.modPageGroup i f).bus j = s.bus j := rfl
@[simp] theorem modPageGroup_channel (s : State) (i : PageGroupId) (f : PageGroup → PageGroup) (j : ChannelId) : (s.modPageGroup i f).channel j = s.channel j := rfl
@[simp] theorem modPageGroup_fieldModule (s : State) (i : PageGroupId) (f : PageGroup → PageGroup) (j : ModuleId) : (s.modPageGroup i f).fieldModule j = s.fieldModule j := rfl
@[simp] theorem modPageGroup_zone (s : State) (i : PageGroupId) (f : PageGroup → PageGroup) (j : ZoneId) : (s.modPageGroup i f).zone j = s.zone j := rfl
@[simp] theorem modPageGroup_now (s : State) (i : PageGroupId) (f : PageGroup → PageGroup) : (s.modPageGroup i f).now = s.now := rfl

@[simp] theorem modPage_sct (s : State) (i : PageId) (f : Page → Page) : (s.modPage i f).sct = s.sct := rfl
@[simp] theorem modPage_de (s : State) (i : PageId) (f : Page → Page) : (s.modPage i f).de = s.de := rfl
@[simp] theorem modPage_ppu (s : State) (i : PageId) (f : Page → Page) : (s.modPage i f).ppu = s.ppu := rfl
@[simp] theorem modPage_pdir (s : State) (i : PageId) (f : Page → Page) : (s.modPage i f).pdir = s.pdir := rfl
@[simp] theorem modPage_ag (s : State) (i : PageId) (f : Page → Page) : (s.modPage i f).ag = s.ag := rfl
@[simp] theorem modPage_flc (s : State) (i : PageId) (f : Page → Page) : (s.modPage i f).flc = s.flc := rfl
@[simp] theorem modPage_cs (s : State) (i : PageId) (f : Page → Page) : (s.modPage i f).cs = s.cs := rfl
@[simp] theorem modPage_cl (s : State) (i : PageId) (f : Page → Page) : (s.modPage i f).cl = s.cl := rfl
@[simp] theorem modPage_pending (s : State) (i : PageId) (f : Page → Page) : (s.modPage i f).pending = s.pending := rfl
@[simp] theorem modPage_station (s : State) (i : PageId) (f : Page → Page) (j : StationId) : (s.modPage i f).station j = s.station j := rfl
@[simp] theorem modPage_call (s : State) (i : PageId) (f : Page → Page) (j : CallId) : (s.modPage i f).call j = s.call j := rfl
@[simp] theorem modPage_group (s : State) (i : PageId) (f : Page → Page) (j : GroupId) : (s.modPage i f).group j = s.group j := rfl
@[simp] theorem modPage_pickup (s : State) (i : PageId) (f : Page → Page) (j : PickupId) : (s.modPage i f).pickup j = s.pickup j := rfl
@[simp] theorem modPage_cls (s : State) (i : PageId) (f : Page → Page) (j : ClassId) : (s.modPage i f).cls j = s.cls j := rfl
@[simp] theorem modPage_orbit (s : State) (i : PageId) (f : Page → Page) (j : OrbitId) : (s.modPage i f).orbit j = s.orbit j := rfl
@[simp] theorem modPage_directory (s : State) (i : PageId) (f : Page → Page) (j : DirectoryId) : (s.modPage i f).directory j = s.directory j := rfl
@[simp] theorem modPage_entry (s : State) (i : PageId) (f : Page → Page) (j : EntryId) : (s.modPage i f).entry j = s.entry j := rfl
@[simp] theorem modPage_pageGroup (s : State) (i : PageId) (f : Page → Page) (j : PageGroupId) : (s.modPage i f).pageGroup j = s.pageGroup j := rfl
@[simp] theorem modPage_bus (s : State) (i : PageId) (f : Page → Page) (j : BusId) : (s.modPage i f).bus j = s.bus j := rfl
@[simp] theorem modPage_channel (s : State) (i : PageId) (f : Page → Page) (j : ChannelId) : (s.modPage i f).channel j = s.channel j := rfl
@[simp] theorem modPage_fieldModule (s : State) (i : PageId) (f : Page → Page) (j : ModuleId) : (s.modPage i f).fieldModule j = s.fieldModule j := rfl
@[simp] theorem modPage_zone (s : State) (i : PageId) (f : Page → Page) (j : ZoneId) : (s.modPage i f).zone j = s.zone j := rfl
@[simp] theorem modPage_now (s : State) (i : PageId) (f : Page → Page) : (s.modPage i f).now = s.now := rfl
@[simp] theorem modPage_pageQueue (s : State) (i : PageId) (f : Page → Page) : (s.modPage i f).pgc.queue = s.pgc.queue := rfl

@[simp] theorem modBus_sct (s : State) (i : BusId) (f : Bus → Bus) : (s.modBus i f).sct = s.sct := rfl
@[simp] theorem modBus_de (s : State) (i : BusId) (f : Bus → Bus) : (s.modBus i f).de = s.de := rfl
@[simp] theorem modBus_ppu (s : State) (i : BusId) (f : Bus → Bus) : (s.modBus i f).ppu = s.ppu := rfl
@[simp] theorem modBus_pdir (s : State) (i : BusId) (f : Bus → Bus) : (s.modBus i f).pdir = s.pdir := rfl
@[simp] theorem modBus_ag (s : State) (i : BusId) (f : Bus → Bus) : (s.modBus i f).ag = s.ag := rfl
@[simp] theorem modBus_flc (s : State) (i : BusId) (f : Bus → Bus) : (s.modBus i f).flc = s.flc := rfl
@[simp] theorem modBus_cs (s : State) (i : BusId) (f : Bus → Bus) : (s.modBus i f).cs = s.cs := rfl
@[simp] theorem modBus_cl (s : State) (i : BusId) (f : Bus → Bus) : (s.modBus i f).cl = s.cl := rfl
@[simp] theorem modBus_pending (s : State) (i : BusId) (f : Bus → Bus) : (s.modBus i f).pending = s.pending := rfl
@[simp] theorem modBus_station (s : State) (i : BusId) (f : Bus → Bus) (j : StationId) : (s.modBus i f).station j = s.station j := rfl
@[simp] theorem modBus_call (s : State) (i : BusId) (f : Bus → Bus) (j : CallId) : (s.modBus i f).call j = s.call j := rfl
@[simp] theorem modBus_group (s : State) (i : BusId) (f : Bus → Bus) (j : GroupId) : (s.modBus i f).group j = s.group j := rfl
@[simp] theorem modBus_pickup (s : State) (i : BusId) (f : Bus → Bus) (j : PickupId) : (s.modBus i f).pickup j = s.pickup j := rfl
@[simp] theorem modBus_cls (s : State) (i : BusId) (f : Bus → Bus) (j : ClassId) : (s.modBus i f).cls j = s.cls j := rfl
@[simp] theorem modBus_orbit (s : State) (i : BusId) (f : Bus → Bus) (j : OrbitId) : (s.modBus i f).orbit j = s.orbit j := rfl
@[simp] theorem modBus_directory (s : State) (i : BusId) (f : Bus → Bus) (j : DirectoryId) : (s.modBus i f).directory j = s.directory j := rfl
@[simp] theorem modBus_entry (s : State) (i : BusId) (f : Bus → Bus) (j : EntryId) : (s.modBus i f).entry j = s.entry j := rfl
@[simp] theorem modBus_pageGroup (s : State) (i : BusId) (f : Bus → Bus) (j : PageGroupId) : (s.modBus i f).pageGroup j = s.pageGroup j := rfl
@[simp] theorem modBus_page (s : State) (i : BusId) (f : Bus → Bus) (j : PageId) : (s.modBus i f).page j = s.page j := rfl
@[simp] theorem modBus_channel (s : State) (i : BusId) (f : Bus → Bus) (j : ChannelId) : (s.modBus i f).channel j = s.channel j := rfl
@[simp] theorem modBus_fieldModule (s : State) (i : BusId) (f : Bus → Bus) (j : ModuleId) : (s.modBus i f).fieldModule j = s.fieldModule j := rfl
@[simp] theorem modBus_zone (s : State) (i : BusId) (f : Bus → Bus) (j : ZoneId) : (s.modBus i f).zone j = s.zone j := rfl
@[simp] theorem modBus_now (s : State) (i : BusId) (f : Bus → Bus) : (s.modBus i f).now = s.now := rfl
@[simp] theorem modBus_pageQueue (s : State) (i : BusId) (f : Bus → Bus) : (s.modBus i f).pgc.queue = s.pgc.queue := rfl

@[simp] theorem modChannel_sct (s : State) (i : ChannelId) (f : Channel → Channel) : (s.modChannel i f).sct = s.sct := rfl
@[simp] theorem modChannel_de (s : State) (i : ChannelId) (f : Channel → Channel) : (s.modChannel i f).de = s.de := rfl
@[simp] theorem modChannel_ppu (s : State) (i : ChannelId) (f : Channel → Channel) : (s.modChannel i f).ppu = s.ppu := rfl
@[simp] theorem modChannel_pdir (s : State) (i : ChannelId) (f : Channel → Channel) : (s.modChannel i f).pdir = s.pdir := rfl
@[simp] theorem modChannel_pgc (s : State) (i : ChannelId) (f : Channel → Channel) : (s.modChannel i f).pgc = s.pgc := rfl
@[simp] theorem modChannel_flc (s : State) (i : ChannelId) (f : Channel → Channel) : (s.modChannel i f).flc = s.flc := rfl
@[simp] theorem modChannel_cs (s : State) (i : ChannelId) (f : Channel → Channel) : (s.modChannel i f).cs = s.cs := rfl
@[simp] theorem modChannel_cl (s : State) (i : ChannelId) (f : Channel → Channel) : (s.modChannel i f).cl = s.cl := rfl
@[simp] theorem modChannel_pending (s : State) (i : ChannelId) (f : Channel → Channel) : (s.modChannel i f).pending = s.pending := rfl
@[simp] theorem modChannel_station (s : State) (i : ChannelId) (f : Channel → Channel) (j : StationId) : (s.modChannel i f).station j = s.station j := rfl
@[simp] theorem modChannel_call (s : State) (i : ChannelId) (f : Channel → Channel) (j : CallId) : (s.modChannel i f).call j = s.call j := rfl
@[simp] theorem modChannel_group (s : State) (i : ChannelId) (f : Channel → Channel) (j : GroupId) : (s.modChannel i f).group j = s.group j := rfl
@[simp] theorem modChannel_pickup (s : State) (i : ChannelId) (f : Channel → Channel) (j : PickupId) : (s.modChannel i f).pickup j = s.pickup j := rfl
@[simp] theorem modChannel_cls (s : State) (i : ChannelId) (f : Channel → Channel) (j : ClassId) : (s.modChannel i f).cls j = s.cls j := rfl
@[simp] theorem modChannel_orbit (s : State) (i : ChannelId) (f : Channel → Channel) (j : OrbitId) : (s.modChannel i f).orbit j = s.orbit j := rfl
@[simp] theorem modChannel_directory (s : State) (i : ChannelId) (f : Channel → Channel) (j : DirectoryId) : (s.modChannel i f).directory j = s.directory j := rfl
@[simp] theorem modChannel_entry (s : State) (i : ChannelId) (f : Channel → Channel) (j : EntryId) : (s.modChannel i f).entry j = s.entry j := rfl
@[simp] theorem modChannel_pageGroup (s : State) (i : ChannelId) (f : Channel → Channel) (j : PageGroupId) : (s.modChannel i f).pageGroup j = s.pageGroup j := rfl
@[simp] theorem modChannel_page (s : State) (i : ChannelId) (f : Channel → Channel) (j : PageId) : (s.modChannel i f).page j = s.page j := rfl
@[simp] theorem modChannel_bus (s : State) (i : ChannelId) (f : Channel → Channel) (j : BusId) : (s.modChannel i f).bus j = s.bus j := rfl
@[simp] theorem modChannel_fieldModule (s : State) (i : ChannelId) (f : Channel → Channel) (j : ModuleId) : (s.modChannel i f).fieldModule j = s.fieldModule j := rfl
@[simp] theorem modChannel_zone (s : State) (i : ChannelId) (f : Channel → Channel) (j : ZoneId) : (s.modChannel i f).zone j = s.zone j := rfl
@[simp] theorem modChannel_now (s : State) (i : ChannelId) (f : Channel → Channel) : (s.modChannel i f).now = s.now := rfl

@[simp] theorem modModule_sct (s : State) (i : ModuleId) (f : FieldModule → FieldModule) : (s.modModule i f).sct = s.sct := rfl
@[simp] theorem modModule_de (s : State) (i : ModuleId) (f : FieldModule → FieldModule) : (s.modModule i f).de = s.de := rfl
@[simp] theorem modModule_ppu (s : State) (i : ModuleId) (f : FieldModule → FieldModule) : (s.modModule i f).ppu = s.ppu := rfl
@[simp] theorem modModule_pdir (s : State) (i : ModuleId) (f : FieldModule → FieldModule) : (s.modModule i f).pdir = s.pdir := rfl
@[simp] theorem modModule_pgc (s : State) (i : ModuleId) (f : FieldModule → FieldModule) : (s.modModule i f).pgc = s.pgc := rfl
@[simp] theorem modModule_ag (s : State) (i : ModuleId) (f : FieldModule → FieldModule) : (s.modModule i f).ag = s.ag := rfl
@[simp] theorem modModule_cs (s : State) (i : ModuleId) (f : FieldModule → FieldModule) : (s.modModule i f).cs = s.cs := rfl
@[simp] theorem modModule_cl (s : State) (i : ModuleId) (f : FieldModule → FieldModule) : (s.modModule i f).cl = s.cl := rfl
@[simp] theorem modModule_pending (s : State) (i : ModuleId) (f : FieldModule → FieldModule) : (s.modModule i f).pending = s.pending := rfl
@[simp] theorem modModule_station (s : State) (i : ModuleId) (f : FieldModule → FieldModule) (j : StationId) : (s.modModule i f).station j = s.station j := rfl
@[simp] theorem modModule_call (s : State) (i : ModuleId) (f : FieldModule → FieldModule) (j : CallId) : (s.modModule i f).call j = s.call j := rfl
@[simp] theorem modModule_group (s : State) (i : ModuleId) (f : FieldModule → FieldModule) (j : GroupId) : (s.modModule i f).group j = s.group j := rfl
@[simp] theorem modModule_pickup (s : State) (i : ModuleId) (f : FieldModule → FieldModule) (j : PickupId) : (s.modModule i f).pickup j = s.pickup j := rfl
@[simp] theorem modModule_cls (s : State) (i : ModuleId) (f : FieldModule → FieldModule) (j : ClassId) : (s.modModule i f).cls j = s.cls j := rfl
@[simp] theorem modModule_orbit (s : State) (i : ModuleId) (f : FieldModule → FieldModule) (j : OrbitId) : (s.modModule i f).orbit j = s.orbit j := rfl
@[simp] theorem modModule_directory (s : State) (i : ModuleId) (f : FieldModule → FieldModule) (j : DirectoryId) : (s.modModule i f).directory j = s.directory j := rfl
@[simp] theorem modModule_entry (s : State) (i : ModuleId) (f : FieldModule → FieldModule) (j : EntryId) : (s.modModule i f).entry j = s.entry j := rfl
@[simp] theorem modModule_pageGroup (s : State) (i : ModuleId) (f : FieldModule → FieldModule) (j : PageGroupId) : (s.modModule i f).pageGroup j = s.pageGroup j := rfl
@[simp] theorem modModule_page (s : State) (i : ModuleId) (f : FieldModule → FieldModule) (j : PageId) : (s.modModule i f).page j = s.page j := rfl
@[simp] theorem modModule_bus (s : State) (i : ModuleId) (f : FieldModule → FieldModule) (j : BusId) : (s.modModule i f).bus j = s.bus j := rfl
@[simp] theorem modModule_channel (s : State) (i : ModuleId) (f : FieldModule → FieldModule) (j : ChannelId) : (s.modModule i f).channel j = s.channel j := rfl
@[simp] theorem modModule_zone (s : State) (i : ModuleId) (f : FieldModule → FieldModule) (j : ZoneId) : (s.modModule i f).zone j = s.zone j := rfl
@[simp] theorem modModule_now (s : State) (i : ModuleId) (f : FieldModule → FieldModule) : (s.modModule i f).now = s.now := rfl
@[simp] theorem modModule_flc_alert (s : State) (i : ModuleId) (f : FieldModule → FieldModule) : (s.modModule i f).flc.alert = s.flc.alert := rfl
@[simp] theorem modModule_flc_line (s : State) (i : ModuleId) (f : FieldModule → FieldModule) : (s.modModule i f).flc.line = s.flc.line := rfl
@[simp] theorem modModule_flc_scanPos (s : State) (i : ModuleId) (f : FieldModule → FieldModule) : (s.modModule i f).flc.scanPos = s.flc.scanPos := rfl
@[simp] theorem modModule_flc_scanCounter (s : State) (i : ModuleId) (f : FieldModule → FieldModule) : (s.modModule i f).flc.scanCounter = s.flc.scanCounter := rfl

@[simp] theorem modZone_sct (s : State) (i : ZoneId) (f : Zone → Zone) : (s.modZone i f).sct = s.sct := rfl
@[simp] theorem modZone_de (s : State) (i : ZoneId) (f : Zone → Zone) : (s.modZone i f).de = s.de := rfl
@[simp] theorem modZone_ppu (s : State) (i : ZoneId) (f : Zone → Zone) : (s.modZone i f).ppu = s.ppu := rfl
@[simp] theorem modZone_pdir (s : State) (i : ZoneId) (f : Zone → Zone) : (s.modZone i f).pdir = s.pdir := rfl
@[simp] theorem modZone_pgc (s : State) (i : ZoneId) (f : Zone → Zone) : (s.modZone i f).pgc = s.pgc := rfl
@[simp] theorem modZone_ag (s : State) (i : ZoneId) (f : Zone → Zone) : (s.modZone i f).ag = s.ag := rfl
@[simp] theorem modZone_cs (s : State) (i : ZoneId) (f : Zone → Zone) : (s.modZone i f).cs = s.cs := rfl
@[simp] theorem modZone_cl (s : State) (i : ZoneId) (f : Zone → Zone) : (s.modZone i f).cl = s.cl := rfl
@[simp] theorem modZone_pending (s : State) (i : ZoneId) (f : Zone → Zone) : (s.modZone i f).pending = s.pending := rfl
@[simp] theorem modZone_station (s : State) (i : ZoneId) (f : Zone → Zone) (j : StationId) : (s.modZone i f).station j = s.station j := rfl
@[simp] theorem modZone_call (s : State) (i : ZoneId) (f : Zone → Zone) (j : CallId) : (s.modZone i f).call j = s.call j := rfl
@[simp] theorem modZone_group (s : State) (i : ZoneId) (f : Zone → Zone) (j : GroupId) : (s.modZone i f).group j = s.group j := rfl
@[simp] theorem modZone_pickup (s : State) (i : ZoneId) (f : Zone → Zone) (j : PickupId) : (s.modZone i f).pickup j = s.pickup j := rfl
@[simp] theorem modZone_cls (s : State) (i : ZoneId) (f : Zone → Zone) (j : ClassId) : (s.modZone i f).cls j = s.cls j := rfl
@[simp] theorem modZone_orbit (s : State) (i : ZoneId) (f : Zone → Zone) (j : OrbitId) : (s.modZone i f).orbit j = s.orbit j := rfl
@[simp] theorem modZone_directory (s : State) (i : ZoneId) (f : Zone → Zone) (j : DirectoryId) : (s.modZone i f).directory j = s.directory j := rfl
@[simp] theorem modZone_entry (s : State) (i : ZoneId) (f : Zone → Zone) (j : EntryId) : (s.modZone i f).entry j = s.entry j := rfl
@[simp] theorem modZone_pageGroup (s : State) (i : ZoneId) (f : Zone → Zone) (j : PageGroupId) : (s.modZone i f).pageGroup j = s.pageGroup j := rfl
@[simp] theorem modZone_page (s : State) (i : ZoneId) (f : Zone → Zone) (j : PageId) : (s.modZone i f).page j = s.page j := rfl
@[simp] theorem modZone_bus (s : State) (i : ZoneId) (f : Zone → Zone) (j : BusId) : (s.modZone i f).bus j = s.bus j := rfl
@[simp] theorem modZone_channel (s : State) (i : ZoneId) (f : Zone → Zone) (j : ChannelId) : (s.modZone i f).channel j = s.channel j := rfl
@[simp] theorem modZone_fieldModule (s : State) (i : ZoneId) (f : Zone → Zone) (j : ModuleId) : (s.modZone i f).fieldModule j = s.fieldModule j := rfl
@[simp] theorem modZone_now (s : State) (i : ZoneId) (f : Zone → Zone) : (s.modZone i f).now = s.now := rfl
@[simp] theorem modZone_flc_alert (s : State) (i : ZoneId) (f : Zone → Zone) : (s.modZone i f).flc.alert = s.flc.alert := rfl
@[simp] theorem modZone_flc_line (s : State) (i : ZoneId) (f : Zone → Zone) : (s.modZone i f).flc.line = s.flc.line := rfl
@[simp] theorem modZone_flc_scanPos (s : State) (i : ZoneId) (f : Zone → Zone) : (s.modZone i f).flc.scanPos = s.flc.scanPos := rfl
@[simp] theorem modZone_flc_scanCounter (s : State) (i : ZoneId) (f : Zone → Zone) : (s.modZone i f).flc.scanCounter = s.flc.scanCounter := rfl

@[simp] theorem modCl_sct (s : State) (f : Cl → Cl) : (s.modCl f).sct = s.sct := rfl
@[simp] theorem modCl_de (s : State) (f : Cl → Cl) : (s.modCl f).de = s.de := rfl
@[simp] theorem modCl_ppu (s : State) (f : Cl → Cl) : (s.modCl f).ppu = s.ppu := rfl
@[simp] theorem modCl_pdir (s : State) (f : Cl → Cl) : (s.modCl f).pdir = s.pdir := rfl
@[simp] theorem modCl_pgc (s : State) (f : Cl → Cl) : (s.modCl f).pgc = s.pgc := rfl
@[simp] theorem modCl_ag (s : State) (f : Cl → Cl) : (s.modCl f).ag = s.ag := rfl
@[simp] theorem modCl_flc (s : State) (f : Cl → Cl) : (s.modCl f).flc = s.flc := rfl
@[simp] theorem modCl_cs (s : State) (f : Cl → Cl) : (s.modCl f).cs = s.cs := rfl
@[simp] theorem modCl_pending (s : State) (f : Cl → Cl) : (s.modCl f).pending = s.pending := rfl
@[simp] theorem modCl_cl (s : State) (f : Cl → Cl) : (s.modCl f).cl = f s.cl := rfl
@[simp] theorem modCl_now (s : State) (f : Cl → Cl) : (s.modCl f).now = s.now := rfl
@[simp] theorem modCl_station (s : State) (f : Cl → Cl) (j : StationId) : (s.modCl f).station j = s.station j := rfl
@[simp] theorem modCl_call (s : State) (f : Cl → Cl) (j : CallId) : (s.modCl f).call j = s.call j := rfl
@[simp] theorem modCl_group (s : State) (f : Cl → Cl) (j : GroupId) : (s.modCl f).group j = s.group j := rfl
@[simp] theorem modCl_pickup (s : State) (f : Cl → Cl) (j : PickupId) : (s.modCl f).pickup j = s.pickup j := rfl
@[simp] theorem modCl_cls (s : State) (f : Cl → Cl) (j : ClassId) : (s.modCl f).cls j = s.cls j := rfl
@[simp] theorem modCl_orbit (s : State) (f : Cl → Cl) (j : OrbitId) : (s.modCl f).orbit j = s.orbit j := rfl
@[simp] theorem modCl_directory (s : State) (f : Cl → Cl) (j : DirectoryId) : (s.modCl f).directory j = s.directory j := rfl
@[simp] theorem modCl_entry (s : State) (f : Cl → Cl) (j : EntryId) : (s.modCl f).entry j = s.entry j := rfl
@[simp] theorem modCl_pageGroup (s : State) (f : Cl → Cl) (j : PageGroupId) : (s.modCl f).pageGroup j = s.pageGroup j := rfl
@[simp] theorem modCl_page (s : State) (f : Cl → Cl) (j : PageId) : (s.modCl f).page j = s.page j := rfl
@[simp] theorem modCl_bus (s : State) (f : Cl → Cl) (j : BusId) : (s.modCl f).bus j = s.bus j := rfl
@[simp] theorem modCl_channel (s : State) (f : Cl → Cl) (j : ChannelId) : (s.modCl f).channel j = s.channel j := rfl
@[simp] theorem modCl_fieldModule (s : State) (f : Cl → Cl) (j : ModuleId) : (s.modCl f).fieldModule j = s.fieldModule j := rfl
@[simp] theorem modCl_zone (s : State) (f : Cl → Cl) (j : ZoneId) : (s.modCl f).zone j = s.zone j := rfl

/-! ## The record itself, and the others of its table -/

@[simp] theorem modStation_same (s : State) (i : StationId) (f : Station → Station) : (s.modStation i f).station i = f (s.station i) :=
  upd_same _ i f
theorem modStation_ne (s : State) {i j : StationId} (f : Station → Station) (h : j ≠ i) : (s.modStation i f).station j = s.station j :=
  upd_ne _ f h
theorem modStation_apply (s : State) (i j : StationId) (f : Station → Station) :
    (s.modStation i f).station j = if j = i then f (s.station i) else s.station j :=
  upd_apply _ i j f
@[simp] theorem modCall_same (s : State) (i : CallId) (f : Call → Call) : (s.modCall i f).call i = f (s.call i) :=
  upd_same _ i f
theorem modCall_ne (s : State) {i j : CallId} (f : Call → Call) (h : j ≠ i) : (s.modCall i f).call j = s.call j :=
  upd_ne _ f h
theorem modCall_apply (s : State) (i j : CallId) (f : Call → Call) :
    (s.modCall i f).call j = if j = i then f (s.call i) else s.call j :=
  upd_apply _ i j f
@[simp] theorem modGroup_same (s : State) (i : GroupId) (f : Group → Group) : (s.modGroup i f).group i = f (s.group i) :=
  upd_same _ i f
theorem modGroup_ne (s : State) {i j : GroupId} (f : Group → Group) (h : j ≠ i) : (s.modGroup i f).group j = s.group j :=
  upd_ne _ f h
theorem modGroup_apply (s : State) (i j : GroupId) (f : Group → Group) :
    (s.modGroup i f).group j = if j = i then f (s.group i) else s.group j :=
  upd_apply _ i j f
@[simp] theorem modPickup_same (s : State) (i : PickupId) (f : PickupGroup → PickupGroup) : (s.modPickup i f).pickup i = f (s.pickup i) :=
  upd_same _ i f
theorem modPickup_ne (s : State) {i j : PickupId} (f : PickupGroup → PickupGroup) (h : j ≠ i) : (s.modPickup i f).pickup j = s.pickup j :=
  upd_ne _ f h
theorem modPickup_apply (s : State) (i j : PickupId) (f : PickupGroup → PickupGroup) :
    (s.modPickup i f).pickup j = if j = i then f (s.pickup i) else s.pickup j :=
  upd_apply _ i j f
@[simp] theorem modClass_same (s : State) (i : ClassId) (f : ServiceClass → ServiceClass) : (s.modClass i f).cls i = f (s.cls i) :=
  upd_same _ i f
theorem modClass_ne (s : State) {i j : ClassId} (f : ServiceClass → ServiceClass) (h : j ≠ i) : (s.modClass i f).cls j = s.cls j :=
  upd_ne _ f h
theorem modClass_apply (s : State) (i j : ClassId) (f : ServiceClass → ServiceClass) :
    (s.modClass i f).cls j = if j = i then f (s.cls i) else s.cls j :=
  upd_apply _ i j f
@[simp] theorem modOrbit_same (s : State) (i : OrbitId) (f : Orbit → Orbit) : (s.modOrbit i f).orbit i = f (s.orbit i) :=
  upd_same _ i f
theorem modOrbit_ne (s : State) {i j : OrbitId} (f : Orbit → Orbit) (h : j ≠ i) : (s.modOrbit i f).orbit j = s.orbit j :=
  upd_ne _ f h
theorem modOrbit_apply (s : State) (i j : OrbitId) (f : Orbit → Orbit) :
    (s.modOrbit i f).orbit j = if j = i then f (s.orbit i) else s.orbit j :=
  upd_apply _ i j f
@[simp] theorem modDirectory_same (s : State) (i : DirectoryId) (f : Directory → Directory) : (s.modDirectory i f).directory i = f (s.directory i) :=
  upd_same _ i f
theorem modDirectory_ne (s : State) {i j : DirectoryId} (f : Directory → Directory) (h : j ≠ i) : (s.modDirectory i f).directory j = s.directory j :=
  upd_ne _ f h
theorem modDirectory_apply (s : State) (i j : DirectoryId) (f : Directory → Directory) :
    (s.modDirectory i f).directory j = if j = i then f (s.directory i) else s.directory j :=
  upd_apply _ i j f
@[simp] theorem modEntry_same (s : State) (i : EntryId) (f : CodeEntry → CodeEntry) : (s.modEntry i f).entry i = f (s.entry i) :=
  upd_same _ i f
theorem modEntry_ne (s : State) {i j : EntryId} (f : CodeEntry → CodeEntry) (h : j ≠ i) : (s.modEntry i f).entry j = s.entry j :=
  upd_ne _ f h
theorem modEntry_apply (s : State) (i j : EntryId) (f : CodeEntry → CodeEntry) :
    (s.modEntry i f).entry j = if j = i then f (s.entry i) else s.entry j :=
  upd_apply _ i j f
@[simp] theorem modPageGroup_same (s : State) (i : PageGroupId) (f : PageGroup → PageGroup) : (s.modPageGroup i f).pageGroup i = f (s.pageGroup i) :=
  upd_same _ i f
theorem modPageGroup_ne (s : State) {i j : PageGroupId} (f : PageGroup → PageGroup) (h : j ≠ i) : (s.modPageGroup i f).pageGroup j = s.pageGroup j :=
  upd_ne _ f h
theorem modPageGroup_apply (s : State) (i j : PageGroupId) (f : PageGroup → PageGroup) :
    (s.modPageGroup i f).pageGroup j = if j = i then f (s.pageGroup i) else s.pageGroup j :=
  upd_apply _ i j f
@[simp] theorem modPage_same (s : State) (i : PageId) (f : Page → Page) : (s.modPage i f).page i = f (s.page i) :=
  upd_same _ i f
theorem modPage_ne (s : State) {i j : PageId} (f : Page → Page) (h : j ≠ i) : (s.modPage i f).page j = s.page j :=
  upd_ne _ f h
theorem modPage_apply (s : State) (i j : PageId) (f : Page → Page) :
    (s.modPage i f).page j = if j = i then f (s.page i) else s.page j :=
  upd_apply _ i j f
@[simp] theorem modBus_same (s : State) (i : BusId) (f : Bus → Bus) : (s.modBus i f).bus i = f (s.bus i) :=
  upd_same _ i f
theorem modBus_ne (s : State) {i j : BusId} (f : Bus → Bus) (h : j ≠ i) : (s.modBus i f).bus j = s.bus j :=
  upd_ne _ f h
theorem modBus_apply (s : State) (i j : BusId) (f : Bus → Bus) :
    (s.modBus i f).bus j = if j = i then f (s.bus i) else s.bus j :=
  upd_apply _ i j f
@[simp] theorem modChannel_same (s : State) (i : ChannelId) (f : Channel → Channel) : (s.modChannel i f).channel i = f (s.channel i) :=
  upd_same _ i f
theorem modChannel_ne (s : State) {i j : ChannelId} (f : Channel → Channel) (h : j ≠ i) : (s.modChannel i f).channel j = s.channel j :=
  upd_ne _ f h
theorem modChannel_apply (s : State) (i j : ChannelId) (f : Channel → Channel) :
    (s.modChannel i f).channel j = if j = i then f (s.channel i) else s.channel j :=
  upd_apply _ i j f
@[simp] theorem modModule_same (s : State) (i : ModuleId) (f : FieldModule → FieldModule) : (s.modModule i f).fieldModule i = f (s.fieldModule i) :=
  upd_same _ i f
theorem modModule_ne (s : State) {i j : ModuleId} (f : FieldModule → FieldModule) (h : j ≠ i) : (s.modModule i f).fieldModule j = s.fieldModule j :=
  upd_ne _ f h
theorem modModule_apply (s : State) (i j : ModuleId) (f : FieldModule → FieldModule) :
    (s.modModule i f).fieldModule j = if j = i then f (s.fieldModule i) else s.fieldModule j :=
  upd_apply _ i j f
@[simp] theorem modZone_same (s : State) (i : ZoneId) (f : Zone → Zone) : (s.modZone i f).zone i = f (s.zone i) :=
  upd_same _ i f
theorem modZone_ne (s : State) {i j : ZoneId} (f : Zone → Zone) (h : j ≠ i) : (s.modZone i f).zone j = s.zone j :=
  upd_ne _ f h
theorem modZone_apply (s : State) (i j : ZoneId) (f : Zone → Zone) :
    (s.modZone i f).zone j = if j = i then f (s.zone i) else s.zone j :=
  upd_apply _ i j f

end State

end Sys2Proof.Machine
end

