-- ==== Sys2Proof/Laws/Link.lean ====
section
/-!
SUPPORT. The Control Link's shared operations: what they leave alone (everything but the Control Link), what they do to the two
lists and the transmitter, and what `request` comes to for each answer of an owner.
-/

namespace Sys2Proof.Machine

/-! ## Reports and replies -/

@[simp] theorem queueReport_sct (s : State) (r : Report) : (queueReport s r).sct = s.sct := rfl
@[simp] theorem queueReport_de (s : State) (r : Report) : (queueReport s r).de = s.de := rfl
@[simp] theorem queueReport_ppu (s : State) (r : Report) : (queueReport s r).ppu = s.ppu := rfl
@[simp] theorem queueReport_pdir (s : State) (r : Report) : (queueReport s r).pdir = s.pdir := rfl
@[simp] theorem queueReport_pgc (s : State) (r : Report) : (queueReport s r).pgc = s.pgc := rfl
@[simp] theorem queueReport_ag (s : State) (r : Report) : (queueReport s r).ag = s.ag := rfl
@[simp] theorem queueReport_flc (s : State) (r : Report) : (queueReport s r).flc = s.flc := rfl
@[simp] theorem queueReport_cs (s : State) (r : Report) : (queueReport s r).cs = s.cs := rfl
@[simp] theorem queueReport_pending (s : State) (r : Report) : (queueReport s r).pending = s.pending := rfl
@[simp] theorem queueReport_now (s : State) (r : Report) : (queueReport s r).now = s.now := rfl
@[simp] theorem queueReport_station (s : State) (r : Report) (j : StationId) : (queueReport s r).station j = s.station j := rfl
@[simp] theorem queueReport_call (s : State) (r : Report) (j : CallId) : (queueReport s r).call j = s.call j := rfl
@[simp] theorem queueReport_group (s : State) (r : Report) (j : GroupId) : (queueReport s r).group j = s.group j := rfl
@[simp] theorem queueReport_pickup (s : State) (r : Report) (j : PickupId) : (queueReport s r).pickup j = s.pickup j := rfl
@[simp] theorem queueReport_cls (s : State) (r : Report) (j : ClassId) : (queueReport s r).cls j = s.cls j := rfl
@[simp] theorem queueReport_orbit (s : State) (r : Report) (j : OrbitId) : (queueReport s r).orbit j = s.orbit j := rfl
@[simp] theorem queueReport_directory (s : State) (r : Report) (j : DirectoryId) : (queueReport s r).directory j = s.directory j := rfl
@[simp] theorem queueReport_entry (s : State) (r : Report) (j : EntryId) : (queueReport s r).entry j = s.entry j := rfl
@[simp] theorem queueReport_pageGroup (s : State) (r : Report) (j : PageGroupId) : (queueReport s r).pageGroup j = s.pageGroup j := rfl
@[simp] theorem queueReport_page (s : State) (r : Report) (j : PageId) : (queueReport s r).page j = s.page j := rfl
@[simp] theorem queueReport_bus (s : State) (r : Report) (j : BusId) : (queueReport s r).bus j = s.bus j := rfl
@[simp] theorem queueReport_channel (s : State) (r : Report) (j : ChannelId) : (queueReport s r).channel j = s.channel j := rfl
@[simp] theorem queueReport_fieldModule (s : State) (r : Report) (j : ModuleId) : (queueReport s r).fieldModule j = s.fieldModule j := rfl
@[simp] theorem queueReport_zone (s : State) (r : Report) (j : ZoneId) : (queueReport s r).zone j = s.zone j := rfl

theorem queueReport_room (s : State) (r : Report) (h : s.cl.reports.length < Config.reportLimit) :
    (queueReport s r).cl = { s.cl with reports := s.cl.reports ++ [r] } := by
  simp [queueReport, h]

theorem queueReport_full (s : State) (r : Report) (h : Config.reportLimit ≤ s.cl.reports.length) :
    (queueReport s r).cl = { s.cl with lost := true } := by
  simp [queueReport, Nat.not_lt.mpr h]

/-- A queued report changes the report queue and the lost flag alone. -/
theorem queueReport_link (s : State) (r : Report) :
    (queueReport s r).cl = { s.cl with reports := (queueReport s r).cl.reports, lost := (queueReport s r).cl.lost } := by
  by_cases h : s.cl.reports.length < Config.reportLimit
  · simp [queueReport_room s r h]
  · simp [queueReport_full s r (Nat.not_lt.mp h)]

/-- The report queue does not rise above its limit. -/
theorem queueReport_within (s : State) (r : Report) (h : s.cl.reports.length ≤ Config.reportLimit) :
    (queueReport s r).cl.reports.length ≤ Config.reportLimit := by
  by_cases h' : s.cl.reports.length < Config.reportLimit
  · rw [queueReport_room s r h']; simp at h' ⊢; omega
  · rw [queueReport_full s r (Nat.not_lt.mp h')]; exact h

@[simp] theorem placeReply_sct (s : State) (k t : Byte) (w : Bool) (c : Code) (f : List Byte) : (placeReply s k t w c f).sct = s.sct := rfl
@[simp] theorem placeReply_de (s : State) (k t : Byte) (w : Bool) (c : Code) (f : List Byte) : (placeReply s k t w c f).de = s.de := rfl
@[simp] theorem placeReply_ppu (s : State) (k t : Byte) (w : Bool) (c : Code) (f : List Byte) : (placeReply s k t w c f).ppu = s.ppu := rfl
@[simp] theorem placeReply_pdir (s : State) (k t : Byte) (w : Bool) (c : Code) (f : List Byte) : (placeReply s k t w c f).pdir = s.pdir := rfl
@[simp] theorem placeReply_pgc (s : State) (k t : Byte) (w : Bool) (c : Code) (f : List Byte) : (placeReply s k t w c f).pgc = s.pgc := rfl
@[simp] theorem placeReply_ag (s : State) (k t : Byte) (w : Bool) (c : Code) (f : List Byte) : (placeReply s k t w c f).ag = s.ag := rfl
@[simp] theorem placeReply_flc (s : State) (k t : Byte) (w : Bool) (c : Code) (f : List Byte) : (placeReply s k t w c f).flc = s.flc := rfl
@[simp] theorem placeReply_cs (s : State) (k t : Byte) (w : Bool) (c : Code) (f : List Byte) : (placeReply s k t w c f).cs = s.cs := rfl
@[simp] theorem placeReply_pending (s : State) (k t : Byte) (w : Bool) (c : Code) (f : List Byte) : (placeReply s k t w c f).pending = s.pending := rfl
@[simp] theorem placeReply_now (s : State) (k t : Byte) (w : Bool) (c : Code) (f : List Byte) : (placeReply s k t w c f).now = s.now := rfl
@[simp] theorem placeReply_station (s : State) (k t : Byte) (w : Bool) (c : Code) (f : List Byte) (j : StationId) : (placeReply s k t w c f).station j = s.station j := rfl
@[simp] theorem placeReply_call (s : State) (k t : Byte) (w : Bool) (c : Code) (f : List Byte) (j : CallId) : (placeReply s k t w c f).call j = s.call j := rfl
@[simp] theorem placeReply_group (s : State) (k t : Byte) (w : Bool) (c : Code) (f : List Byte) (j : GroupId) : (placeReply s k t w c f).group j = s.group j := rfl
@[simp] theorem placeReply_pickup (s : State) (k t : Byte) (w : Bool) (c : Code) (f : List Byte) (j : PickupId) : (placeReply s k t w c f).pickup j = s.pickup j := rfl
@[simp] theorem placeReply_cls (s : State) (k t : Byte) (w : Bool) (c : Code) (f : List Byte) (j : ClassId) : (placeReply s k t w c f).cls j = s.cls j := rfl
@[simp] theorem placeReply_orbit (s : State) (k t : Byte) (w : Bool) (c : Code) (f : List Byte) (j : OrbitId) : (placeReply s k t w c f).orbit j = s.orbit j := rfl
@[simp] theorem placeReply_directory (s : State) (k t : Byte) (w : Bool) (c : Code) (f : List Byte) (j : DirectoryId) : (placeReply s k t w c f).directory j = s.directory j := rfl
@[simp] theorem placeReply_entry (s : State) (k t : Byte) (w : Bool) (c : Code) (f : List Byte) (j : EntryId) : (placeReply s k t w c f).entry j = s.entry j := rfl
@[simp] theorem placeReply_pageGroup (s : State) (k t : Byte) (w : Bool) (c : Code) (f : List Byte) (j : PageGroupId) : (placeReply s k t w c f).pageGroup j = s.pageGroup j := rfl
@[simp] theorem placeReply_page (s : State) (k t : Byte) (w : Bool) (c : Code) (f : List Byte) (j : PageId) : (placeReply s k t w c f).page j = s.page j := rfl
@[simp] theorem placeReply_bus (s : State) (k t : Byte) (w : Bool) (c : Code) (f : List Byte) (j : BusId) : (placeReply s k t w c f).bus j = s.bus j := rfl
@[simp] theorem placeReply_channel (s : State) (k t : Byte) (w : Bool) (c : Code) (f : List Byte) (j : ChannelId) : (placeReply s k t w c f).channel j = s.channel j := rfl
@[simp] theorem placeReply_fieldModule (s : State) (k t : Byte) (w : Bool) (c : Code) (f : List Byte) (j : ModuleId) : (placeReply s k t w c f).fieldModule j = s.fieldModule j := rfl
@[simp] theorem placeReply_zone (s : State) (k t : Byte) (w : Bool) (c : Code) (f : List Byte) (j : ZoneId) : (placeReply s k t w c f).zone j = s.zone j := rfl

@[simp] theorem makeReady_sct (s : State) (c : Code) (f : List Byte) : (makeReady s c f).sct = s.sct := rfl
@[simp] theorem makeReady_de (s : State) (c : Code) (f : List Byte) : (makeReady s c f).de = s.de := rfl
@[simp] theorem makeReady_ppu (s : State) (c : Code) (f : List Byte) : (makeReady s c f).ppu = s.ppu := rfl
@[simp] theorem makeReady_pdir (s : State) (c : Code) (f : List Byte) : (makeReady s c f).pdir = s.pdir := rfl
@[simp] theorem makeReady_pgc (s : State) (c : Code) (f : List Byte) : (makeReady s c f).pgc = s.pgc := rfl
@[simp] theorem makeReady_ag (s : State) (c : Code) (f : List Byte) : (makeReady s c f).ag = s.ag := rfl
@[simp] theorem makeReady_flc (s : State) (c : Code) (f : List Byte) : (makeReady s c f).flc = s.flc := rfl
@[simp] theorem makeReady_cs (s : State) (c : Code) (f : List Byte) : (makeReady s c f).cs = s.cs := rfl
@[simp] theorem makeReady_pending (s : State) (c : Code) (f : List Byte) : (makeReady s c f).pending = s.pending := rfl
@[simp] theorem makeReady_now (s : State) (c : Code) (f : List Byte) : (makeReady s c f).now = s.now := rfl
@[simp] theorem makeReady_station (s : State) (c : Code) (f : List Byte) (j : StationId) : (makeReady s c f).station j = s.station j := rfl
@[simp] theorem makeReady_call (s : State) (c : Code) (f : List Byte) (j : CallId) : (makeReady s c f).call j = s.call j := rfl
@[simp] theorem makeReady_group (s : State) (c : Code) (f : List Byte) (j : GroupId) : (makeReady s c f).group j = s.group j := rfl
@[simp] theorem makeReady_pickup (s : State) (c : Code) (f : List Byte) (j : PickupId) : (makeReady s c f).pickup j = s.pickup j := rfl
@[simp] theorem makeReady_cls (s : State) (c : Code) (f : List Byte) (j : ClassId) : (makeReady s c f).cls j = s.cls j := rfl
@[simp] theorem makeReady_orbit (s : State) (c : Code) (f : List Byte) (j : OrbitId) : (makeReady s c f).orbit j = s.orbit j := rfl
@[simp] theorem makeReady_directory (s : State) (c : Code) (f : List Byte) (j : DirectoryId) : (makeReady s c f).directory j = s.directory j := rfl
@[simp] theorem makeReady_entry (s : State) (c : Code) (f : List Byte) (j : EntryId) : (makeReady s c f).entry j = s.entry j := rfl
@[simp] theorem makeReady_pageGroup (s : State) (c : Code) (f : List Byte) (j : PageGroupId) : (makeReady s c f).pageGroup j = s.pageGroup j := rfl
@[simp] theorem makeReady_page (s : State) (c : Code) (f : List Byte) (j : PageId) : (makeReady s c f).page j = s.page j := rfl
@[simp] theorem makeReady_bus (s : State) (c : Code) (f : List Byte) (j : BusId) : (makeReady s c f).bus j = s.bus j := rfl
@[simp] theorem makeReady_channel (s : State) (c : Code) (f : List Byte) (j : ChannelId) : (makeReady s c f).channel j = s.channel j := rfl
@[simp] theorem makeReady_fieldModule (s : State) (c : Code) (f : List Byte) (j : ModuleId) : (makeReady s c f).fieldModule j = s.fieldModule j := rfl
@[simp] theorem makeReady_zone (s : State) (c : Code) (f : List Byte) (j : ZoneId) : (makeReady s c f).zone j = s.zone j := rfl

/-! ## The transmitter -/

/-- The transmitter's choice changes the two lists and the transmitter alone. -/
theorem chooseFrame_link (s : State) :
    chooseFrame s = s.modCl fun c =>
      { c with replies := (chooseFrame s).cl.replies, reports := (chooseFrame s).cl.reports, tx := (chooseFrame s).cl.tx } := by
  unfold chooseFrame
  (repeat' split) <;> simp [State.modCl, *]

/-- The end of an event changes the two lists and the transmitter alone. -/
theorem finish_link (s : State) :
    finish s = s.modCl fun c =>
      { c with replies := (finish s).cl.replies, reports := (finish s).cl.reports, tx := (finish s).cl.tx } := by
  have h := chooseFrame_link s
  unfold finish
  split
  · rfl
  · split
    · rfl
    · exact h

/-- The choice takes from the lists and adds nothing. -/
theorem chooseFrame_lists (s : State) :
    (chooseFrame s).cl.replies.length ≤ s.cl.replies.length ∧ (chooseFrame s).cl.reports.length ≤ s.cl.reports.length := by
  unfold chooseFrame
  (repeat' split) <;> simp_all [State.modCl]

theorem finish_lists (s : State) :
    (finish s).cl.replies.length ≤ s.cl.replies.length ∧ (finish s).cl.reports.length ≤ s.cl.reports.length := by
  have h := chooseFrame_lists s
  unfold finish
  split
  · simp
  · split
    · simp
    · exact h

/-- A chosen state leaves the transmitter IDLE only with nothing that it could send. -/
theorem chooseFrame_serves (s : State) : TransmitterServesQueues (chooseFrame s) := by
  unfold chooseFrame TransmitterServesQueues
  (repeat' split) <;> simp_all [State.modCl]

/-- The end of any event leaves no work to an IDLE transmitter. -/
theorem finish_serves (s : State) : TransmitterServesQueues (finish s) := by
  unfold finish
  split
  · intro h; simp_all
  · split
    · intro _ h; contradiction
    · exact chooseFrame_serves s

/-- An event that ends within the link's capacity stays within it. -/
theorem finish_within (s : State) (h : LinkWithinCapacity s) : LinkWithinCapacity (finish s) :=
  ⟨Nat.le_trans (finish_lists s).1 h.1, Nat.le_trans (finish_lists s).2 h.2⟩

@[simp] theorem finish_sct (s : State) : (finish s).sct = s.sct := by rw [finish_link]; rfl
@[simp] theorem finish_de (s : State) : (finish s).de = s.de := by rw [finish_link]; rfl
@[simp] theorem finish_ppu (s : State) : (finish s).ppu = s.ppu := by rw [finish_link]; rfl
@[simp] theorem finish_pdir (s : State) : (finish s).pdir = s.pdir := by rw [finish_link]; rfl
@[simp] theorem finish_pgc (s : State) : (finish s).pgc = s.pgc := by rw [finish_link]; rfl
@[simp] theorem finish_ag (s : State) : (finish s).ag = s.ag := by rw [finish_link]; rfl
@[simp] theorem finish_flc (s : State) : (finish s).flc = s.flc := by rw [finish_link]; rfl
@[simp] theorem finish_cs (s : State) : (finish s).cs = s.cs := by rw [finish_link]; rfl
@[simp] theorem finish_pending (s : State) : (finish s).pending = s.pending := by rw [finish_link]; rfl
@[simp] theorem finish_now (s : State) : (finish s).now = s.now := by rw [finish_link]; rfl
@[simp] theorem finish_station (s : State) (j : StationId) : (finish s).station j = s.station j := by rw [finish_link]; rfl
@[simp] theorem finish_call (s : State) (j : CallId) : (finish s).call j = s.call j := by rw [finish_link]; rfl
@[simp] theorem finish_group (s : State) (j : GroupId) : (finish s).group j = s.group j := by rw [finish_link]; rfl
@[simp] theorem finish_pickup (s : State) (j : PickupId) : (finish s).pickup j = s.pickup j := by rw [finish_link]; rfl
@[simp] theorem finish_cls (s : State) (j : ClassId) : (finish s).cls j = s.cls j := by rw [finish_link]; rfl
@[simp] theorem finish_orbit (s : State) (j : OrbitId) : (finish s).orbit j = s.orbit j := by rw [finish_link]; rfl
@[simp] theorem finish_directory (s : State) (j : DirectoryId) : (finish s).directory j = s.directory j := by rw [finish_link]; rfl
@[simp] theorem finish_entry (s : State) (j : EntryId) : (finish s).entry j = s.entry j := by rw [finish_link]; rfl
@[simp] theorem finish_pageGroup (s : State) (j : PageGroupId) : (finish s).pageGroup j = s.pageGroup j := by rw [finish_link]; rfl
@[simp] theorem finish_page (s : State) (j : PageId) : (finish s).page j = s.page j := by rw [finish_link]; rfl
@[simp] theorem finish_bus (s : State) (j : BusId) : (finish s).bus j = s.bus j := by rw [finish_link]; rfl
@[simp] theorem finish_channel (s : State) (j : ChannelId) : (finish s).channel j = s.channel j := by rw [finish_link]; rfl
@[simp] theorem finish_fieldModule (s : State) (j : ModuleId) : (finish s).fieldModule j = s.fieldModule j := by rw [finish_link]; rfl
@[simp] theorem finish_zone (s : State) (j : ZoneId) : (finish s).zone j = s.zone j := by rw [finish_link]; rfl

theorem finish_cl_framer (s : State) : (finish s).cl.framer = s.cl.framer := by rw [finish_link]; rfl
theorem finish_cl_lost (s : State) : (finish s).cl.lost = s.cl.lost := by rw [finish_link]; rfl
theorem finish_cl_mode (s : State) : (finish s).cl.mode = s.cl.mode := by rw [finish_link]; rfl
theorem finish_cl_restart (s : State) : (finish s).cl.restart = s.cl.restart := by rw [finish_link]; rfl
theorem finish_cl_startCause (s : State) : (finish s).cl.startCause = s.cl.startCause := by rw [finish_link]; rfl

@[simp] theorem framerHunt_sct (s : State) : (framerHunt s).sct = s.sct := rfl
@[simp] theorem framerHunt_de (s : State) : (framerHunt s).de = s.de := rfl
@[simp] theorem framerHunt_ppu (s : State) : (framerHunt s).ppu = s.ppu := rfl
@[simp] theorem framerHunt_pdir (s : State) : (framerHunt s).pdir = s.pdir := rfl
@[simp] theorem framerHunt_pgc (s : State) : (framerHunt s).pgc = s.pgc := rfl
@[simp] theorem framerHunt_ag (s : State) : (framerHunt s).ag = s.ag := rfl
@[simp] theorem framerHunt_flc (s : State) : (framerHunt s).flc = s.flc := rfl
@[simp] theorem framerHunt_cs (s : State) : (framerHunt s).cs = s.cs := rfl
@[simp] theorem framerHunt_pending (s : State) : (framerHunt s).pending = s.pending := rfl
@[simp] theorem framerHunt_now (s : State) : (framerHunt s).now = s.now := rfl
@[simp] theorem framerHunt_station (s : State) (j : StationId) : (framerHunt s).station j = s.station j := rfl
@[simp] theorem framerHunt_call (s : State) (j : CallId) : (framerHunt s).call j = s.call j := rfl
@[simp] theorem framerHunt_group (s : State) (j : GroupId) : (framerHunt s).group j = s.group j := rfl
@[simp] theorem framerHunt_pickup (s : State) (j : PickupId) : (framerHunt s).pickup j = s.pickup j := rfl
@[simp] theorem framerHunt_cls (s : State) (j : ClassId) : (framerHunt s).cls j = s.cls j := rfl
@[simp] theorem framerHunt_orbit (s : State) (j : OrbitId) : (framerHunt s).orbit j = s.orbit j := rfl
@[simp] theorem framerHunt_directory (s : State) (j : DirectoryId) : (framerHunt s).directory j = s.directory j := rfl
@[simp] theorem framerHunt_entry (s : State) (j : EntryId) : (framerHunt s).entry j = s.entry j := rfl
@[simp] theorem framerHunt_pageGroup (s : State) (j : PageGroupId) : (framerHunt s).pageGroup j = s.pageGroup j := rfl
@[simp] theorem framerHunt_page (s : State) (j : PageId) : (framerHunt s).page j = s.page j := rfl
@[simp] theorem framerHunt_bus (s : State) (j : BusId) : (framerHunt s).bus j = s.bus j := rfl
@[simp] theorem framerHunt_channel (s : State) (j : ChannelId) : (framerHunt s).channel j = s.channel j := rfl
@[simp] theorem framerHunt_fieldModule (s : State) (j : ModuleId) : (framerHunt s).fieldModule j = s.fieldModule j := rfl
@[simp] theorem framerHunt_zone (s : State) (j : ZoneId) : (framerHunt s).zone j = s.zone j := rfl

/-! ## Requests -/

/-- The reply to a request is the last of the reply list or on the line. -/
theorem replied_hasReply (t : State) (kind : Byte) (h : Header) (code : Code) (fields : List Byte) :
    hasReply (replied t kind h code fields) kind h code fields := by
  unfold hasReply replied finish chooseFrame
  cases ht : t.cl.tx with
  | sending f => simp [placeReply, State.modCl, ht]
  | idle =>
    by_cases hr : t.cl.restart = .replySent
    · simp [placeReply, State.modCl, ht, hr]
    · cases hl : t.cl.replies with
      | nil => simp [placeReply, State.modCl, ht, hr, hl]
      | cons r rs =>
        cases hw : r.waiting <;> cases hn : t.cl.reports <;>
          simp [placeReply, State.modCl, ht, hr, hl, hw, hn]

/-- In HUNT every frame is taken as `intake` says. -/
theorem intakeOf_hunt {s : State} (first : List Byte) (h : s.cl.framer = .hunt) : intakeOf s first = intake s := by
  simp [intakeOf, framerContinues, framerHolds, h]

/-- A frame that continues the bytes held is taken as `intake` says. -/
theorem intakeOf_continues {s : State} {first : List Byte} (h : framerContinues s first = true) :
    intakeOf s first = intake s := by
  simp [intakeOf, h]

/-- A frame that does not continue the bytes held leaves no trace. -/
theorem intakeOf_other {s : State} {first : List Byte} (h : framerContinues s first = false) :
    intakeOf s first = .discarded := by
  simp [intakeOf, h]

/-- A frame is only ever checked when `intake` says so: there is room in the reply list, and no RESTART is under way. -/
theorem intake_of_checked {s : State} {first : List Byte} (h : intakeOf s first = .checked) : intake s = .checked := by
  unfold intakeOf at h
  split at h
  · exact h
  · contradiction

/-- What `intake` says does not depend on the bytes that the framer holds. -/
theorem intake_framerHunt {s : State} (h : s.cl.framer ≠ .discarding) : intake (framerHunt s) = intake s := by
  unfold intake framerHunt State.modCl
  rw [if_neg h]
  rfl

/-- A request whose bytes are discarded leaves no trace. -/
theorem request_discarded {s : State} (kind : Byte) (lengths : List Nat) (h : Header) (owner : State → Answer)
    (hi : intakeOf s [kind, h.length, h.tag] = .discarded) : request s kind lengths h owner = s := by
  simp [request, hi]

/-- A request that meets a full reply list is an overrun. -/
theorem request_overrun {s : State} (kind : Byte) (lengths : List Nat) (h : Header) (owner : State → Answer)
    (hi : intakeOf s [kind, h.length, h.tag] = .overrun) :
    request s kind lengths h owner =
      finish (linkError (framerHunt s) .overrun (4 + h.length.toNat) (some kind) (some h.tag)) := by
  simp [request, hi]

/-- A request of a wrong length is refused BAD LENGTH. -/
theorem request_badLength {s : State} (kind : Byte) {lengths : List Nat} {h : Header} (owner : State → Answer)
    (hi : intakeOf s [kind, h.length, h.tag] = .checked) (hl : h.length.toNat ∉ lengths) :
    request s kind lengths h owner = replied (framerHunt s) kind h .badLength [] := by
  simp [request, hi, hl, answer, replied]

/-- A request that its owner refuses changes nothing but the link. -/
theorem request_refused {s : State} {kind : Byte} {lengths : List Nat} {h : Header} {owner : State → Answer} {code : Code}
    (hi : intakeOf s [kind, h.length, h.tag] = .checked) (hl : h.length.toNat ∈ lengths) (ho : owner (framerHunt s) = .refuse code) :
    request s kind lengths h owner = replied (framerHunt s) kind h code [] := by
  simp [request, hi, hl, ho, answer, replied]

/-- A request that its owner takes leaves the owner's state, with its reply placed. -/
theorem request_taken {s t : State} {kind : Byte} {lengths : List Nat} {h : Header} {owner : State → Answer}
    {fields : List Byte} (hi : intakeOf s [kind, h.length, h.tag] = .checked) (hl : h.length.toNat ∈ lengths)
    (ho : owner (framerHunt s) = .ok t fields) : request s kind lengths h owner = replied t kind h .ok fields := by
  simp [request, hi, hl, ho, answer, replied]

/-- What `request` comes to, for an invariant of a state that the framer, a queued report, a placed reply and the end of an event
keep: it holds after the request when it holds before and the owner's answer keeps it. -/
theorem request_keeps {P : State → Prop} {s : State} (kind : Byte) (lengths : List Nat) (h : Header)
    (owner : State → Answer) (hP : P s) (hunt : ∀ u, P u → P (framerHunt u)) (report : ∀ u r, P u → P (queueReport u r))
    (place : ∀ u w c f, intakeOf s [kind, h.length, h.tag] = .checked → P u → P (placeReply u kind h.tag w c f)) (fin : ∀ u, P u → P (finish u))
    (taken : ∀ t f, owner (framerHunt s) = .ok t f → P t) (wait : ∀ t, owner (framerHunt s) = .wait t → P t) :
    P (request s kind lengths h owner) := by
  unfold request
  split
  · exact hP
  · exact fin _ (report _ _ (hunt _ hP))
  · rename_i hi
    split
    · apply fin
      unfold answer
      split
      · exact place _ _ _ _ hi (hunt _ hP)
      · rename_i ho; exact place _ _ _ _ hi (taken _ _ ho)
      · rename_i ho; exact place _ _ _ _ hi (wait _ ho)
    · exact fin _ (place _ _ _ _ hi (hunt _ hP))

/-- Every request but STATUS is one `request`, with its legal lengths and its owner; STATUS is one too, then clears the lost flag
(R171). -/
theorem exec_request (i : Instr) (kind : Byte) (h : Header) (hr : i.request? = some (kind, h)) :
    (∃ lengths owner, ∀ s, exec i s = .next (request s kind lengths h owner)) ∨ (i = .status h ∧ kind = 0x20) := by
  cases i <;> simp only [Instr.request?, Option.some.injEq, Prod.mk.injEq, reduceCtorEq] at hr
  all_goals
    obtain ⟨rfl, rfl⟩ := hr
    first
    | exact .inr ⟨rfl, rfl⟩
    | exact .inl ⟨_, _, fun s => rfl⟩

end Sys2Proof.Machine
end

