-- ==== Sys2Proof/Laws/Quiet.lean ====
section
/-!
SUPPORT. What every operation on calls, pages, announcements and beacons leaves alone: the tables, the store, the tick, the run
mode, the reply list and the transmitter, the generations of the calls, the health of the zones, the modules, the field line; and
the two invariants it keeps. `Quiet s t` says so once, and each operation has one lemma that says it is quiet.
-/

namespace Sys2Proof.Machine

/-- The fields of a zone that the Field Line Controller owns (8.2). -/
def Zone.health (z : Zone) : ZoneKind × ZoneService × Option FaultKind × Byte × Option (BitVec 15) :=
  (z.kind, z.service, z.fault, z.faultGen, z.load)

/-- The fields of a module that only the field line and MODULE SET change. -/
def FieldModule.identity (m : FieldModule) : ModuleType × ModuleType × Option Byte × ModuleState :=
  (m.configured, m.sensed, m.revision, m.state)

/-- The change from `s` to `t` is one that calls, pages, announcements and beacons make. -/
structure Quiet (s t : State) : Prop where
  pending : t.pending = s.pending
  cs : t.cs = s.cs
  tick : t.sct.tick = s.sct.tick
  tables : tables t = tables s
  gens : ∀ c, (t.call c).gen = (s.call c).gen
  health : ∀ z, (t.zone z).health = (s.zone z).health
  modules : ∀ m, (t.fieldModule m).identity = (s.fieldModule m).identity
  line : t.flc.line = s.flc.line ∧ t.flc.scanPos = s.flc.scanPos ∧ t.flc.scanCounter = s.flc.scanCounter
  link : t.cl = { s.cl with reports := t.cl.reports, lost := t.cl.lost }
  reports : s.cl.reports.length ≤ Config.reportLimit → t.cl.reports.length ≤ Config.reportLimit
  channels : ChannelsFollowClaims s → ChannelsFollowClaims t

namespace Quiet

theorem rfl' (s : State) : Quiet s s :=
  ⟨rfl, rfl, rfl, rfl, fun _ => rfl, fun _ => rfl, fun _ => rfl, ⟨rfl, rfl, rfl⟩, rfl, id, id⟩

theorem trans {s t u : State} (h : Quiet s t) (k : Quiet t u) : Quiet s u where
  pending := k.pending.trans h.pending
  cs := k.cs.trans h.cs
  tick := k.tick.trans h.tick
  tables := k.tables.trans h.tables
  gens c := (k.gens c).trans (h.gens c)
  health z := (k.health z).trans (h.health z)
  modules m := (k.modules m).trans (h.modules m)
  line := ⟨k.line.1.trans h.line.1, k.line.2.1.trans h.line.2.1, k.line.2.2.trans h.line.2.2⟩
  link := by rw [k.link, h.link]
  reports x := k.reports (h.reports x)
  channels x := k.channels (h.channels x)

/-- A fold of quiet changes is quiet. -/
theorem foldl {α : Type} {f : State → α → State} (hf : ∀ s a, Quiet s (f s a)) (l : List α) (s : State) :
    Quiet s (l.foldl f s) := by
  induction l generalizing s with
  | nil => exact rfl' s
  | cons a l ih => exact (hf s a).trans (ih (f s a))

/-! ## The small changes -/

theorem report (s : State) (r : Report) : Quiet s (queueReport s r) :=
  ⟨rfl, rfl, rfl, rfl, fun _ => rfl, fun _ => rfl, fun _ => rfl, ⟨rfl, rfl, rfl⟩, queueReport_link s r,
    queueReport_within s r, id⟩

theorem modStation (s : State) (i : StationId) (f : Station → Station)
    (hf : ∀ x, ((f x).cfg, (f x).dnd, (f x).memberships) = (x.cfg, x.dnd, x.memberships)) : Quiet s (s.modStation i f) where
  pending := rfl
  cs := rfl
  tick := rfl
  tables := by
    have e : mapTable (fun t : Station => ({ cfg := t.cfg, dnd := t.dnd, memberships := t.memberships } : StationImage))
        (upd s.sct.stations i f) = mapTable (fun t : Station => { cfg := t.cfg, dnd := t.dnd, memberships := t.memberships })
        s.sct.stations := mapTable_upd _ _ _ _ (fun x => by
          have h := hf x
          simp only [Prod.mk.injEq] at h
          simp [h.1, h.2.1, h.2.2])
    simp only [Machine.tables, imageOf, State.modStation, e]
  gens _ := rfl
  health _ := rfl
  modules _ := rfl
  line := ⟨rfl, rfl, rfl⟩
  link := rfl
  reports := id
  channels := id

theorem modCall (s : State) (i : CallId) (f : Call → Call) (hf : ∀ x, (f x).gen = x.gen) : Quiet s (s.modCall i f) where
  pending := rfl
  cs := rfl
  tick := rfl
  tables := rfl
  gens c := by
    rw [State.modCall_apply]
    split
    · rename_i h; rw [h, hf]
    · rfl
  health _ := rfl
  modules _ := rfl
  line := ⟨rfl, rfl, rfl⟩
  link := rfl
  reports := id
  channels := id

/-- What the store image holds of a group. -/
def groupView (g : Group) : GroupImage :=
  { service := g.service, cfg := g.cfg, annP := g.annP, beaconP := g.beaconP,
    members := g.members.map fun m => (m.station, m.weight) }

theorem modGroup (s : State) (i : GroupId) (f : Group → Group) (hf : ∀ x, groupView (f x) = groupView x) :
    Quiet s (s.modGroup i f) where
  pending := rfl
  cs := rfl
  tick := rfl
  tables := by
    have e : mapTable groupView (upd s.de.groups i f) = mapTable groupView s.de.groups := mapTable_upd _ _ _ _ hf
    simp only [Machine.tables, imageOf, State.modGroup]
    exact congrArg (fun v => ({ groups := v, .. : Image })) e
  gens _ := rfl
  health _ := rfl
  modules _ := rfl
  line := ⟨rfl, rfl, rfl⟩
  link := rfl
  reports := id
  channels := id

theorem modPickup (s : State) (i : PickupId) (f : PickupGroup → PickupGroup) (hf : ∀ x, (f x).links = x.links) :
    Quiet s (s.modPickup i f) where
  pending := rfl
  cs := rfl
  tick := rfl
  tables := by
    have e : mapTable PickupGroup.links (upd s.ppu.pickups i f) = mapTable PickupGroup.links s.ppu.pickups :=
      mapTable_upd _ _ _ _ hf
    simp only [Machine.tables, imageOf, State.modPickup]
    exact congrArg (fun v => ({ links := v, .. : Image })) e
  gens _ := rfl
  health _ := rfl
  modules _ := rfl
  line := ⟨rfl, rfl, rfl⟩
  link := rfl
  reports := id
  channels := id

theorem modPageGroup (s : State) (i : PageGroupId) (f : PageGroup → PageGroup) (hf : ∀ x, (f x).cfg = x.cfg) :
    Quiet s (s.modPageGroup i f) where
  pending := rfl
  cs := rfl
  tick := rfl
  tables := by
    have e : mapTable PageGroup.cfg (upd s.pdir.pageGroups i f) = mapTable PageGroup.cfg s.pdir.pageGroups :=
      mapTable_upd _ _ _ _ hf
    simp only [Machine.tables, imageOf, State.modPageGroup]
    exact congrArg (fun v => ({ pageGroups := v, .. : Image })) e
  gens _ := rfl
  health _ := rfl
  modules _ := rfl
  line := ⟨rfl, rfl, rfl⟩
  link := rfl
  reports := id
  channels := id

theorem modOrbit (s : State) (i : OrbitId) (f : Orbit → Orbit) : Quiet s (s.modOrbit i f) :=
  ⟨rfl, rfl, rfl, rfl, fun _ => rfl, fun _ => rfl, fun _ => rfl, ⟨rfl, rfl, rfl⟩, rfl, id, id⟩

theorem modPage (s : State) (i : PageId) (f : Page → Page) : Quiet s (s.modPage i f) :=
  ⟨rfl, rfl, rfl, rfl, fun _ => rfl, fun _ => rfl, fun _ => rfl, ⟨rfl, rfl, rfl⟩, rfl, id, id⟩

theorem modBus (s : State) (i : BusId) (f : Bus → Bus) : Quiet s (s.modBus i f) :=
  ⟨rfl, rfl, rfl, rfl, fun _ => rfl, fun _ => rfl, fun _ => rfl, ⟨rfl, rfl, rfl⟩, rfl, id, id⟩

theorem pageQueue (s : State) (q : List PageId) : Quiet s { s with pgc := { s.pgc with queue := q } } :=
  ⟨rfl, rfl, rfl, rfl, fun _ => rfl, fun _ => rfl, fun _ => rfl, ⟨rfl, rfl, rfl⟩, rfl, id, id⟩

theorem freeOrder (s : State) (o : List OrbitId) : Quiet s { s with ppu := { s.ppu with freeOrder := o } } :=
  ⟨rfl, rfl, rfl, rfl, fun _ => rfl, fun _ => rfl, fun _ => rfl, ⟨rfl, rfl, rfl⟩, rfl, id, id⟩

theorem alert (s : State) (w : Option (BitVec 16)) : Quiet s { s with flc := { s.flc with alert := w } } :=
  ⟨rfl, rfl, rfl, rfl, fun _ => rfl, fun _ => rfl, fun _ => rfl, ⟨rfl, rfl, rfl⟩, rfl, id, id⟩

theorem modZone (s : State) (i : ZoneId) (f : Zone → Zone) (hf : ∀ x, (f x).health = x.health) : Quiet s (s.modZone i f) where
  pending := rfl
  cs := rfl
  tick := rfl
  tables := rfl
  gens _ := rfl
  health z := by
    rw [State.modZone_apply]
    split
    · rename_i h; rw [h, hf]
    · rfl
  modules _ := rfl
  line := ⟨rfl, rfl, rfl⟩
  link := rfl
  reports := id
  channels := id

theorem modModule (s : State) (i : ModuleId) (f : FieldModule → FieldModule) (hf : ∀ x, (f x).identity = x.identity) :
    Quiet s (s.modModule i f) where
  pending := rfl
  cs := rfl
  tick := rfl
  tables := by
    have e : mapTable FieldModule.configured (upd s.flc.modules i f) = mapTable FieldModule.configured s.flc.modules :=
      mapTable_upd _ _ _ _ (fun x => congrArg Prod.fst (hf x))
    simp only [Machine.tables, imageOf, State.modModule]
    exact congrArg (fun v => ({ types := v, .. : Image })) e
  gens _ := rfl
  health _ := rfl
  modules m := by
    rw [State.modModule_apply]
    split
    · rename_i h; rw [h, hf]
    · rfl
  line := ⟨rfl, rfl, rfl⟩
  link := rfl
  reports := id
  channels := id

/-- A channel agrees with its claims. -/
def Agrees (c : Channel) : Prop :=
  (c.running = true ↔ c.claims.count ≠ 0) ∧ (c.running = false → c.output = false ∧ c.phase = 0) ∧
    (c.running = true → c.output = decide (c.phase < c.cadence.on))

theorem modChannel (s : State) (k : ChannelId) (f : Channel → Channel)
    (hs : ∀ c, ((f c).slotA, (f c).slotB) = (c.slotA, c.slotB)) (hf : ∀ c, Agrees c → Agrees (f c)) :
    Quiet s (s.modChannel k f) where
  pending := rfl
  cs := rfl
  tick := rfl
  tables := by
    have e : mapTable (fun c : Channel => (c.slotA, c.slotB)) (upd s.ag.channels k f) =
        mapTable (fun c : Channel => (c.slotA, c.slotB)) s.ag.channels := mapTable_upd _ _ _ _ hs
    simp only [Machine.tables, imageOf, State.modChannel]
    exact congrArg (fun v => ({ slots := v, .. : Image })) e
  gens _ := rfl
  health _ := rfl
  modules _ := rfl
  line := ⟨rfl, rfl, rfl⟩
  link := rfl
  reports := id
  channels h j := by
    rw [State.modChannel_apply]
    split
    · exact hf _ (h k)
    · exact h j

end Quiet

end Sys2Proof.Machine
end

