-- ==== Sys2Proof/Laws/Paging.lean ====
section
/-!
SUPPORT. Every operation of the Alert Generator and the Paging Controller is quiet (`Quiet`): claims, routes, the start and the end
of a page, the queue scan, the loss and the return of a zone.
-/

namespace Sys2Proof.Machine

open Quiet

/-! ## Channels -/

/-- A channel whose period begins and that runs with a claim agrees. -/
theorem agrees_begin (c : Channel) (now : Tick) (hc : c.claims.count ≠ 0) :
    Agrees { c.beginPeriod now with running := true } := by
  refine ⟨?_, ?_, ?_⟩ <;> cases h : c.pending <;> simp [Channel.beginPeriod, h, Channel.cadence, Channel.slot, hc]

/-- Beginning a period keeps the slots. -/
theorem beginPeriod_slots (c : Channel) (now : Tick) :
    ((c.beginPeriod now).slotA, (c.beginPeriod now).slotB) = (c.slotA, c.slotB) := by
  unfold Channel.beginPeriod
  cases c.pending <;> rfl

theorem count_add (c : Claims) (k : ClaimKind) : (c.add k).count = c.count + 1 := by
  cases k <;> simp [Claims.add, Claims.count] <;> omega

theorem setAlert_quiet (s : State) : Quiet s (setAlert s) := Quiet.alert s _

theorem changeChannel_quiet (s : State) (k : ChannelId) (f : Channel → Channel)
    (hs : ∀ c, ((f c).slotA, (f c).slotB) = (c.slotA, c.slotB)) (hf : ∀ c, Agrees c → Agrees (f c)) :
    Quiet s (changeChannel s k f) := by
  unfold changeChannel
  dsimp only
  split
  · exact Quiet.modChannel s k f hs hf
  · exact Quiet.trans (Quiet.modChannel s k f hs hf) (setAlert_quiet _)

theorem placeClaim_quiet (s : State) (k : ChannelId) (kind : ClaimKind) : Quiet s (placeClaim s k kind) := by
  unfold placeClaim
  apply changeChannel_quiet
  · intro c
    dsimp only
    split
    · exact beginPeriod_slots { c with claims := c.claims.add kind } s.now
    · rfl
  · intro c hc
    dsimp only
    split
    · exact agrees_begin _ _ (by simp [count_add])
    · rename_i h
      exact ⟨⟨fun _ => by simp [count_add], fun _ => hc.1.mpr h⟩, hc.2.1, hc.2.2⟩

theorem dropClaim_quiet (s : State) (k : ChannelId) (kind : ClaimKind) : Quiet s (dropClaim s k kind) := by
  unfold dropClaim
  apply changeChannel_quiet
  · intro c; dsimp only; split <;> rfl
  · intro c hc
    dsimp only
    split
    · rename_i h; exact ⟨by simp [h], by simp, by simp⟩
    · rename_i h
      have hr : c.running = true := by
        refine hc.1.mpr fun h0 => h ?_
        cases kind <;> simp [Claims.remove, Claims.count] at h0 ⊢ <;> omega
      exact ⟨⟨fun _ => h, fun _ => hr⟩, hc.2.1, hc.2.2⟩

/-! ## Routes -/

theorem setPendingRoute_quiet (s : State) (m : ModuleId) : Quiet s (setPendingRoute s m) := by
  unfold setPendingRoute
  split
  · exact Quiet.modModule _ _ _ fun _ => rfl
  · exact rfl' _

theorem setRoute_quiet (s : State) (z : ZoneId) (r : Setting) : Quiet s (setRoute s z r) := by
  unfold setRoute
  refine Quiet.trans ?_ (setPendingRoute_quiet _ _)
  exact Quiet.modZone _ _ _ fun _ => rfl

theorem refollow_quiet (s : State) (z : ZoneId) : Quiet s (refollow s z) := by
  unfold refollow
  dsimp only
  split
  · exact rfl' _
  · refine Quiet.trans ?_ (setRoute_quiet _ _ _)
    exact Quiet.modZone _ _ _ fun _ => rfl

/-! ## Pages -/

theorem pageNotice_quiet (s : State) (p : PageId) (e : PageEvent) : Quiet s (pageNotice s p e) := by
  unfold pageNotice
  exact Quiet.report _ _

theorem holdPage_quiet (s : State) (q : PageId) : Quiet s (holdPage s q) := by
  unfold holdPage
  exact Quiet.trans (Quiet.modPage _ _ _) (pageNotice_quiet _ _ _)

theorem resumePage_quiet (s : State) (q : PageId) : Quiet s (resumePage s q) := by
  unfold resumePage
  split
  · exact Quiet.trans (Quiet.modPage _ _ _) (pageNotice_quiet _ _ _)
  · exact rfl' _

theorem takeMainSource_quiet (s : State) (p : PageId) (b : BusId) : Quiet s (takeMainSource s p b) := by
  unfold takeMainSource
  split
  · exact Quiet.modBus _ _ _
  · exact Quiet.trans (Quiet.modBus _ _ _) (Quiet.report _ _)
  · exact Quiet.trans (Quiet.modBus _ _ _) (placeClaim_quiet _ _ _)

theorem takeZone_quiet (p : PageId) (b : BusId) (s : State) (z : ZoneId) : Quiet s (takeZone p b s z) := by
  unfold takeZone
  split
  · dsimp only
    refine Quiet.trans ?_ (setRoute_quiet _ _ _)
    refine Quiet.trans ?_ (Quiet.modPage _ _ _)
    refine Quiet.trans ?_ (Quiet.modZone _ _ _ fun _ => rfl)
    split
    · exact rfl' _
    · split
      · refine Quiet.trans ?_ (holdPage_quiet _ _)
        refine Quiet.trans ?_ (Quiet.modPage _ _ _)
        exact Quiet.modZone _ _ _ fun _ => rfl
      · refine Quiet.trans ?_ (Quiet.modPage _ _ _)
        exact Quiet.modZone _ _ _ fun _ => rfl
  · exact rfl' _

theorem claimBeacons_quiet (s : State) (p : PageId) : Quiet s (claimBeacons s p) := by
  unfold claimBeacons
  split
  · dsimp only
    refine Quiet.trans ?_ (Quiet.foldl refollow_quiet _ _)
    refine Quiet.foldl (fun t z => ?_) _ _
    exact Quiet.trans (Quiet.modPage _ _ _) (placeClaim_quiet _ _ _)
  · exact rfl' _

/-- The first steps of a start: the queue is left, the bus is taken, the zones are taken. -/
theorem startZones_quiet (s : State) (p : PageId) (b : BusId) (q : List PageId) (zs : List ZoneId) (f : Page → Page)
    (g : Bus → Bus) :
    Quiet s (claimBeacons (zs.foldl (takeZone p b) ((({ s with pgc := { s.pgc with queue := q } } : State).modBus b g).modPage
      p f)) p) := by
  refine Quiet.trans ?_ (claimBeacons_quiet _ _)
  refine Quiet.trans ?_ (Quiet.foldl (takeZone_quiet p b) _ _)
  refine Quiet.trans ?_ (Quiet.modPage _ _ _)
  refine Quiet.trans ?_ (Quiet.modBus _ _ _)
  exact Quiet.pageQueue _ _

theorem startPage_quiet (s : State) (p : PageId) (b : BusId) : Quiet s (startPage s p b) := by
  unfold startPage
  extract_lets s0 s1 s2 s3 s4 s5 r s6 s7 s8 s9
  refine Quiet.trans (t := s9) ?_ (pageNotice_quiet _ _ _)
  refine Quiet.trans (t := s8) ?_ (Quiet.modPage _ _ _)
  refine Quiet.trans (t := s5) (startZones_quiet s p b _ _ _ _) ?_
  have h7 : Quiet s5 s7 := by
    refine Quiet.trans (t := s6) ?_ (placeClaim_quiet _ _ _)
    exact Quiet.modBus _ _ _
  show Quiet s5 (if _ then _ else _)
  split
  · exact Quiet.trans h7 (Quiet.modPage _ _ _)
  · exact Quiet.trans (takeMainSource_quiet _ _ _) (Quiet.modPage _ _ _)

theorem scanPage_quiet (s : State) (p : PageId) : Quiet s (scanPage s p) := by
  unfold scanPage
  split
  · exact rfl' _
  · split
    · exact startPage_quiet _ _ _
    · exact rfl' _

theorem queueScan_quiet (s : State) : Quiet s (queueScan s) := by
  unfold queueScan
  exact Quiet.foldl scanPage_quiet _ _

theorem popZone_quiet (s : State) (z : ZoneId) : Quiet s (popZone s z) := by
  unfold popZone
  split
  · refine Quiet.trans ?_ (setRoute_quiet _ _ _)
    exact Quiet.modZone _ _ _ fun _ => rfl
  · dsimp only
    refine Quiet.trans ?_ (resumePage_quiet _ _)
    refine Quiet.trans ?_ (setRoute_quiet _ _ _)
    refine Quiet.trans ?_ (Quiet.modPage _ _ _)
    exact Quiet.modZone _ _ _ fun _ => rfl

theorem dropPageClaims_quiet (s : State) (p : PageId) : Quiet s (dropPageClaims s p) := by
  unfold dropPageClaims
  extract_lets r s1 s2 s3 s4
  refine Quiet.trans (t := s4) ?_ (Quiet.foldl refollow_quiet _ _)
  have h2 : Quiet s s2 := Quiet.trans (Quiet.modPage _ _ _) (Quiet.foldl (fun t _ => dropClaim_quiet t _ _) _ _)
  have h3 : Quiet s2 s3 := by
    show Quiet s2 (if _ then _ else _)
    split
    · exact dropClaim_quiet _ _ _
    · exact rfl' _
  have h4 : Quiet s3 s4 := by
    show Quiet s3 (match r.source, r.bus with
      | .tone k _, some _ => dropClaim s3 k .tone
      | _, _ => s3)
    split
    · exact dropClaim_quiet _ _ _
    · exact rfl' _
  exact (h2.trans h3).trans h4

theorem dropVoicePage_quiet (s : State) (p : PageId) : Quiet s (dropVoicePage s p) := by
  unfold dropVoicePage
  split
  · exact Quiet.modStation _ _ _ fun x => by split <;> rfl
  · exact rfl' _

theorem ownerTakesEnd_quiet (s : State) (p : PageId) (c : EndCause) : Quiet s (ownerTakesEnd s p c) := by
  unfold ownerTakesEnd
  split
  · exact Quiet.modGroup _ _ _ fun x => by (repeat' split) <;> rfl
  · split
    · exact rfl' _
    · exact Quiet.modCall _ _ _ fun x => by split <;> rfl
  · exact rfl' _

theorem endPageNoScan_quiet (s : State) (p : PageId) (c : EndCause) : Quiet s (endPageNoScan s p c) := by
  unfold endPageNoScan
  extract_lets s0 s1 s2 s3 s4 s5 s6 s7 s8
  refine Quiet.trans (t := s8) ?_ (ownerTakesEnd_quiet _ _ _)
  refine Quiet.trans (t := s7) ?_ (pageNotice_quiet _ _ _)
  refine Quiet.trans (t := s6) ?_ (Quiet.modPage _ _ _)
  refine Quiet.trans (t := s5) ?_ (dropVoicePage_quiet _ _)
  have h1 : Quiet s s1 := Quiet.pageQueue _ _
  have h2 : Quiet s1 s2 := Quiet.foldl popZone_quiet _ _
  have h3 : Quiet s2 s3 := by
    refine Quiet.foldl (fun t z => ?_) _ _
    exact Quiet.modZone _ _ _ fun _ => rfl
  have h4 : Quiet s3 s4 := dropPageClaims_quiet _ _
  have h5 : Quiet s4 s5 := by
    show Quiet s4 (match (s4.page p).bus with
      | some b => s4.modBus b fun _ => Bus.free
      | none => s4)
    split
    · exact Quiet.modBus _ _ _
    · exact rfl' _
  exact (((h1.trans h2).trans h3).trans h4).trans h5

theorem endPage_quiet (s : State) (p : PageId) (c : EndCause) : Quiet s (endPage s p c) :=
  (endPageNoScan_quiet s p c).trans (queueScan_quiet _)

theorem withdrawPage_quiet (s : State) (p : PageId) (g : Byte) : Quiet s (withdrawPage s p g) := by
  unfold withdrawPage
  split
  · exact endPage_quiet _ _ _
  · exact rfl' _

theorem extendPage_quiet (s : State) (p : PageId) (g : Byte) (n : Nat) : Quiet s (extendPage s p g n) := by
  unfold extendPage
  split
  · exact Quiet.modPage _ _ _
  · exact rfl' _

theorem setReferenced_quiet (s : State) (gs : List PageGroupId) : Quiet s (setReferenced s gs) := by
  unfold setReferenced
  refine Quiet.foldl (fun t g => ?_) _ _
  exact Quiet.modPageGroup _ _ _ fun _ => rfl

theorem createPage_quiet (s : State) (p : PageId) (q : PageRequest) : Quiet s (createPage s p q) := by
  unfold createPage
  extract_lets s1 s2
  refine Quiet.trans (t := s2) (Quiet.trans (Quiet.modPage _ _ _) (setReferenced_quiet _ _)) ?_
  split
  · exact Quiet.modStation _ _ _ fun _ => rfl
  · exact rfl' _

theorem enqueuePage_quiet (s : State) (p : PageId) : Quiet s (enqueuePage s p) := by
  unfold enqueuePage
  exact Quiet.trans (Quiet.modPage _ _ _) (Quiet.pageQueue _ _)

/-- What an accepted start attempt leaves is quiet. -/
theorem startAttempt_quiet {s : State} {q : PageRequest} {r : Started} (h : startAttempt s q = .ok r) : Quiet s r.state := by
  unfold startAttempt at h
  split at h
  · cases h
  · rename_i p _
    have hq : Quiet s (enqueuePage (createPage s p q) p) := (createPage_quiet s p q).trans (enqueuePage_quiet _ p)
    split at h
    · split at h
      · cases h
      · rw [← Except.ok.inj h]; exact hq
    · split at h
      · rename_i b _
        rw [← Except.ok.inj h]
        exact Quiet.trans (createPage_quiet s p q) (startPage_quiet (createPage s p q) p b)
      · split at h
        · split at h
          · rename_i v _ _ b _
            rw [← Except.ok.inj h]
            exact Quiet.trans (Quiet.trans (endPageNoScan_quiet s v .cut) (createPage_quiet (endPageNoScan s v .cut) p q))
              (startPage_quiet (createPage (endPageNoScan s v .cut) p q) p b)
          · cases h
        · split at h
          · cases h
          · rw [← Except.ok.inj h]; exact hq

/-! ## Zones lost and returned -/

theorem examinePage_quiet (s : State) (p : PageId) : Quiet s (examinePage s p) := by
  unfold examinePage
  dsimp only
  (repeat' split)
  · exact endPage_quiet _ _ _
  · exact rfl' _
  · exact holdPage_quiet _ _
  · exact rfl' _

theorem zoneLost_quiet (s : State) (z : ZoneId) : Quiet s (zoneLost s z) := by
  unfold zoneLost
  extract_lets playing stack s1 s2 holders s3 changed s4 s5
  refine Quiet.trans (t := s5) ?_ (Quiet.foldl examinePage_quiet _ _)
  have h1 : Quiet s s1 := by
    show Quiet s (match (s.zone z).playing with
      | some p => s.modPage p fun r => { r with audible := r.audible.erase z }
      | none => s)
    split
    · exact Quiet.modPage _ _ _
    · exact rfl' _
  have h2 : Quiet s1 s2 := Quiet.foldl (fun t q => Quiet.modPage t q _) _ _
  have h3 : Quiet s2 s3 := Quiet.foldl (fun t p => Quiet.trans (Quiet.modPage _ _ _) (dropClaim_quiet _ _ _)) _ _
  have h4 : Quiet s3 s4 := Quiet.modZone _ _ _ fun _ => rfl
  have h5 : Quiet s4 s5 := by
    show Quiet s4 (if _ then _ else _)
    split
    · exact setPendingRoute_quiet _ _
    · exact rfl' _
  exact (((h1.trans h2).trans h3).trans h4).trans h5

theorem zoneReturned_quiet (s : State) (z : ZoneId) : Quiet s (zoneReturned s z) := by
  unfold zoneReturned
  split
  · exact queueScan_quiet _
  · exact refollow_quiet _ _
  · exact rfl' _

end Sys2Proof.Machine
end

