-- ==== Sys2Proof/Laws/Calls.lean ====
section
/-!
SUPPORT. Every operation of the Station and Call Table, the Distribution Engine and the Pickup and Park Unit is quiet (`Quiet`):
joins and leaves, queues, selection, arrivals and redirects, recalls, the station arbiter, the end of a call.
-/

namespace Sys2Proof.Machine

open Quiet

/-! ## Announcements and beacons -/

theorem queueNotice_quiet (s : State) (g : GroupId) (e : QueueEvent) : Quiet s (queueNotice s g e) := Quiet.report s _

theorem modAnn_quiet (s : State) (g : GroupId) (f : AnnLive → AnnLive) : Quiet s (modAnn s g f) :=
  Quiet.modGroup s g _ fun _ => rfl

theorem modBeacon_quiet (s : State) (g : GroupId) (f : BeaconLive → BeaconLive) : Quiet s (modBeacon s g f) :=
  Quiet.modGroup s g _ fun _ => rfl

/-- What an announcement's start attempt leaves is quiet. -/
theorem announcementAttempt_quiet {s : State} {g : GroupId} {r : Started} (h : announcementAttempt s g = .ok r) :
    Quiet s r.state := by
  unfold announcementAttempt at h
  split at h
  · cases h
  · split at h
    · cases h
    · exact startAttempt_quiet h

theorem triggerAnnouncement_quiet (s : State) (g : GroupId) : Quiet s (triggerAnnouncement s g).1 := by
  unfold triggerAnnouncement
  extract_lets t
  have ht : Quiet s t := modAnn_quiet _ _ _
  split
  · rename_i r hr
    dsimp only
    exact (ht.trans (announcementAttempt_quiet hr)).trans (modAnn_quiet _ _ _)
  · dsimp only
    exact (ht.trans (queueNotice_quiet _ _ _)).trans (modAnn_quiet _ _ _)

theorem extendAnnouncement_quiet (s : State) (g : GroupId) : Quiet s (extendAnnouncement s g) := by
  unfold extendAnnouncement
  split
  · exact extendPage_quiet _ _ _ _
  · exact rfl' _

theorem announcementJoin_quiet (s : State) (g : GroupId) : Quiet s (announcementJoin s g) := by
  unfold announcementJoin
  dsimp only
  split
  · exact rfl' _
  · split
    · split
      · exact (modAnn_quiet _ _ _).trans (triggerAnnouncement_quiet _ _)
      · exact modAnn_quiet _ _ _
    · split
      · exact (modAnn_quiet _ _ _).trans (triggerAnnouncement_quiet _ _)
      · exact modAnn_quiet _ _ _
    · split
      · exact ((modAnn_quiet _ _ _).trans (modAnn_quiet _ _ _)).trans (extendAnnouncement_quiet _ _)
      · exact modAnn_quiet _ _ _

theorem announcementEmpty_quiet (s : State) (g : GroupId) : Quiet s (announcementEmpty s g) := by
  unfold announcementEmpty
  split
  · exact modAnn_quiet _ _ _
  · exact rfl' _

theorem beaconOn_quiet (s : State) (g : GroupId) (z : ZoneId) : Quiet s (beaconOn s g z) := by
  unfold beaconOn
  exact ((modBeacon_quiet _ _ _).trans (placeClaim_quiet _ _ _)).trans (refollow_quiet _ _)

theorem beaconOff_quiet (s : State) (g : GroupId) : Quiet s (beaconOff s g) := by
  unfold beaconOff
  extract_lets t u
  have h : Quiet s u := Quiet.trans (t := t) (modBeacon_quiet _ _ _) (dropClaim_quiet _ _ _)
  split
  · exact h.trans (refollow_quiet _ _)
  · exact h

theorem beaconJoin_quiet (s : State) (g : GroupId) : Quiet s (beaconJoin s g) := by
  unfold beaconJoin
  split
  · split
    · exact beaconOn_quiet _ _ _
    · exact rfl' _
  · exact rfl' _
  · exact modBeacon_quiet _ _ _

theorem beaconEmpty_quiet (s : State) (g : GroupId) : Quiet s (beaconEmpty s g) := by
  unfold beaconEmpty
  split
  · split
    · exact beaconOff_quiet _ _
    · exact modBeacon_quiet _ _ _
  · exact rfl' _

theorem refollowOpt_quiet (s : State) (z : Option ZoneId) : Quiet s (refollowOpt s z) := by
  unfold refollowOpt
  split
  · exact refollow_quiet _ _
  · exact rfl' _

theorem refollowPair_quiet (s : State) (a b : Option ZoneId) : Quiet s (refollowPair s a b) := by
  unfold refollowPair
  split
  · split
    · exact (refollow_quiet _ _).trans (refollow_quiet _ _)
    · exact (refollow_quiet _ _).trans (refollow_quiet _ _)
  · exact (refollowOpt_quiet _ _).trans (refollowOpt_quiet _ _)

theorem summonGroup_quiet (s : State) (g : GroupId) : Quiet s (summonGroup s g).1 := by
  unfold summonGroup
  split
  · exact (modAnn_quiet _ _ _).trans (extendAnnouncement_quiet _ _)
  · exact triggerAnnouncement_quiet _ _

theorem hushGroup_quiet (s : State) (g : GroupId) : Quiet s (hushGroup s g) := by
  unfold hushGroup
  split
  · exact rfl' _
  · exact modAnn_quiet _ _ _
  · exact modAnn_quiet _ _ _

/-! ## Ring lists, joins and leaves -/

theorem enterRingList_quiet (s : State) (c : CallId) (p : PickupId) : Quiet s (enterRingList s c p) :=
  Quiet.modPickup s p _ fun x => by split <;> rfl

theorem leaveRingList_quiet (s : State) (c : CallId) (p : PickupId) : Quiet s (leaveRingList s c p) := by
  unfold leaveRingList
  split
  · exact rfl' _
  · exact Quiet.modPickup _ _ _ fun _ => rfl

theorem leaveRingLists_quiet (s : State) (c : CallId) : Quiet s (leaveRingLists s c) where
  pending := rfl
  cs := rfl
  tick := rfl
  tables := by
    have e : mapTable PickupGroup.links (mapTable (fun r : PickupGroup => { r with ring := r.ring.filter fun e => e.call != c })
        s.ppu.pickups) = mapTable PickupGroup.links s.ppu.pickups := by
      apply Vector.ext
      intro k hk
      have e1 := mapTable_get PickupGroup.links
        (mapTable (fun r : PickupGroup => { r with ring := r.ring.filter fun e => e.call != c }) s.ppu.pickups) ⟨k, hk⟩
      have e2 := mapTable_get PickupGroup.links s.ppu.pickups ⟨k, hk⟩
      have e3 := mapTable_get (fun r : PickupGroup => { r with ring := r.ring.filter fun e => e.call != c }) s.ppu.pickups
        ⟨k, hk⟩
      simp only [Fin.getElem_fin] at e1 e2 e3
      rw [e1, e3, e2]
    simp only [Machine.tables, imageOf, leaveRingLists]
    exact congrArg (fun v => ({ links := v, .. : Image })) e
  gens _ := rfl
  health _ := rfl
  modules _ := rfl
  line := ⟨rfl, rfl, rfl⟩
  link := rfl
  reports := id
  channels := id

theorem ringJoin_quiet (s : State) (c : CallId) (why : RingReason) (x : StationId) : Quiet s (ringJoin s c why x) := by
  unfold ringJoin
  extract_lets s1 s2 s3
  have h1 : Quiet s s1 := Quiet.modStation _ _ _ fun _ => rfl
  have h2 : Quiet s1 s2 := Quiet.modCall _ _ _ fun _ => rfl
  have h3 : Quiet s2 s3 := Quiet.report _ _
  refine ((h1.trans h2).trans h3).trans ?_
  split
  · exact enterRingList_quiet _ _ _
  · exact rfl' _

theorem ringLeave_quiet (s : State) (c : CallId) (next : StationState) (x : StationId) : Quiet s (ringLeave s c next x) := by
  unfold ringLeave
  extract_lets s1 s2 s3
  have h1 : Quiet s s1 := Quiet.report _ _
  have h2 : Quiet s1 s2 := Quiet.modStation _ _ _ fun _ => rfl
  have h3 : Quiet s2 s3 := Quiet.modCall _ _ _ fun _ => rfl
  refine ((h1.trans h2).trans h3).trans ?_
  split
  · exact leaveRingList_quiet _ _ _
  · exact rfl' _

theorem ringLeaveAll_quiet (s : State) (c : CallId) (xs : List StationId) : Quiet s (ringLeaveAll s c xs) :=
  Quiet.foldl (fun t x => ringLeave_quiet t c .idle x) xs s

/-! ## Group queues -/

theorem queueJoin_quiet (s : State) (g : GroupId) (c : CallId) : Quiet s (queueJoin s g c) := by
  unfold queueJoin
  extract_lets was s1 s2 s3 s4
  have h1 : Quiet s s1 := Quiet.modGroup _ _ _ fun _ => rfl
  have h2 : Quiet s1 s2 := Quiet.modCall _ _ _ fun _ => rfl
  have h3 : Quiet s2 s3 := by
    show Quiet s2 (if _ then _ else _)
    split
    · exact queueNotice_quiet _ _ _
    · exact rfl' _
  have h4 : Quiet s3 s4 := announcementJoin_quiet _ _
  refine (((h1.trans h2).trans h3).trans h4).trans ?_
  split
  · exact beaconJoin_quiet _ _
  · exact rfl' _

theorem queueLeave_quiet (s : State) (g : GroupId) (c : CallId) : Quiet s (queueLeave s g c) := by
  unfold queueLeave
  extract_lets s1
  have h1 : Quiet s s1 := Quiet.modGroup _ _ _ fun _ => rfl
  split
  · exact ((h1.trans (queueNotice_quiet _ _ _)).trans (announcementEmpty_quiet _ _)).trans (beaconEmpty_quiet _ _)
  · exact h1

theorem leaveQueueIfQueued_quiet (s : State) (c : CallId) : Quiet s (leaveQueueIfQueued s c) := by
  unfold leaveQueueIfQueued
  split
  · split
    · exact queueLeave_quiet _ _ _
    · exact rfl' _
  · exact rfl' _

/-! ## Selection -/

/-- A change of the live fields of the member entries is not seen by the store image. -/
theorem groupView_members (g : Group) (f : Member → Member) (hf : ∀ m, ((f m).station, (f m).weight) = (m.station, m.weight)) :
    groupView { g with members := g.members.map f } = groupView g := by
  simp only [groupView, List.map_map]
  congr 1
  exact List.map_congr_left fun m _ => hf m

theorem setOffered_view (g : Group) (x : StationId) : groupView (setOffered g x) = groupView g :=
  groupView_members g _ fun m => by split <;> rfl

theorem clearOffered_view (g : Group) : groupView (clearOffered g) = groupView g := groupView_members g _ fun _ => rfl

theorem selectCircular_view {g r : Group} {a : Member → Bool} {x : StationId} (h : selectCircular g a = some (x, r)) :
    groupView r = groupView g := by
  unfold selectCircular at h
  dsimp only at h
  split at h
  · simp only [Option.map_eq_some_iff] at h
    obtain ⟨m, _, e⟩ := h
    rw [← (Prod.mk.inj e).2]
    rfl
  · cases h

theorem selectEven_view {g r : Group} {a : Member → Bool} {x : StationId} (h : selectEven g a = some (x, r)) :
    groupView r = groupView g := by
  unfold selectEven at h
  simp only [Option.map_eq_some_iff] at h
  obtain ⟨m, _, e⟩ := h
  rw [← (Prod.mk.inj e).2, setOffered_view]
  split
  · exact clearOffered_view g
  · rfl

theorem selectWeighted_view {g r : Group} {a : Member → Bool} {x : StationId} (h : selectWeighted g a = some (x, r)) :
    groupView r = groupView g := by
  unfold selectWeighted at h
  dsimp only at h
  split at h
  · rename_i m _
    rw [← (Prod.mk.inj (Option.some.inj h)).2]
    rw [List.map_map]
    exact groupView_members g _ fun m => by dsimp only [Function.comp]; (repeat' split) <;> rfl
  · cases h

/-- A method's selection changes no stored field of its group. -/
theorem selectFor_view {s : State} {g : GroupId} {c : CallId} {xs : List StationId} {r : Group}
    (h : selectFor s g c = some (xs, r)) : groupView r = groupView (s.group g) := by
  unfold selectFor at h
  dsimp only at h
  split at h
  · simp only [Option.map_eq_some_iff, Option.map_map] at h
    obtain ⟨m, _, e⟩ := h
    rw [← (Prod.mk.inj e).2]
  · simp only [Option.map_eq_some_iff] at h
    obtain ⟨⟨y, q⟩, hq, e⟩ := h
    rw [← (Prod.mk.inj e).2]
    exact selectCircular_view hq
  · simp only [Option.map_eq_some_iff] at h
    obtain ⟨⟨y, q⟩, hq, e⟩ := h
    rw [← (Prod.mk.inj e).2]
    exact selectEven_view hq
  · simp only [Option.map_eq_some_iff, Option.map_map] at h
    obtain ⟨m, _, e⟩ := h
    rw [← (Prod.mk.inj e).2]
  · simp only [Option.map_eq_some_iff] at h
    obtain ⟨⟨y, q⟩, hq, e⟩ := h
    rw [← (Prod.mk.inj e).2]
    exact selectWeighted_view hq
  · split at h
    · cases h
    · rw [← (Prod.mk.inj (Option.some.inj h)).2]

theorem arbiterBookkeeping_view (g : Group) (x : StationId) : groupView (arbiterBookkeeping g x) = groupView g := by
  unfold arbiterBookkeeping
  split
  · split <;> rfl
  · split
    · rw [setOffered_view]
      split
      · exact clearOffered_view g
      · rfl
    · rfl
  all_goals rfl

/-- A group record put in place of one with the same stored fields. -/
theorem putGroup_quiet (s : State) (g : GroupId) (r : Group) (h : groupView r = groupView (s.group g)) :
    Quiet s (s.modGroup g fun _ => r) where
  pending := rfl
  cs := rfl
  tick := rfl
  tables := by
    have e : mapTable groupView (upd s.de.groups g fun _ => r) = mapTable groupView s.de.groups := by
      apply Vector.ext
      intro k hk
      have e1 := mapTable_get groupView (upd s.de.groups g fun _ => r) ⟨k, hk⟩
      have e2 := mapTable_get groupView s.de.groups ⟨k, hk⟩
      rw [upd_apply] at e1
      simp only [Fin.getElem_fin] at e1 e2
      rw [e1, e2]
      by_cases hg : (⟨k, hk⟩ : Fin 64) = g
      · subst hg; simpa [State.group] using h
      · simp [hg]
    simp only [Machine.tables, imageOf, State.modGroup]
    exact congrArg (fun v => ({ groups := v, .. : Image })) e
  gens _ := rfl
  health _ := rfl
  modules _ := rfl
  line := ⟨rfl, rfl, rfl⟩
  link := rfl
  reports := id
  channels := id

theorem ringGroupCall_quiet (s : State) (c : CallId) (g : GroupId) (xs : List StationId) :
    Quiet s (ringGroupCall s c g xs) := by
  unfold ringGroupCall
  refine Quiet.trans ?_ (Quiet.modCall _ _ _ fun _ => rfl)
  exact (leaveQueueIfQueued_quiet _ _).trans (Quiet.foldl (fun t x => ringJoin_quiet t c .group x) _ _)

theorem selectAndRing_quiet (s : State) (c : CallId) (g : GroupId) : Quiet s (selectAndRing s c g) := by
  unfold selectAndRing
  split
  · rename_i h
    exact (putGroup_quiet _ _ _ (selectFor_view h)).trans (ringGroupCall_quiet _ _ _ _)
  · exact rfl' _

theorem ringAvailable_quiet (s : State) (c : CallId) (g : GroupId) : Quiet s (ringAvailable s c g) := by
  unfold ringAvailable
  split
  · exact selectAndRing_quiet _ _ _
  · refine Quiet.trans ?_ (selectAndRing_quiet _ _ _)
    exact Quiet.modCall _ _ _ fun _ => rfl

/-! ## Arrivals and redirects -/

theorem placeCall_quiet (s : State) (c : CallId) (g : GroupId) : Quiet s (placeCall s c g) := by
  unfold placeCall
  extract_lets rings s1
  have h1 : Quiet s s1 := Quiet.modCall _ _ _ fun _ => rfl
  split
  · exact h1.trans (ringAvailable_quiet _ _ _)
  · exact h1.trans (queueJoin_quiet _ _ _)

theorem moveOut_quiet (s : State) (c : CallId) (g : GroupId) (e : CallRef → QueueEvent) : Quiet s (moveOut s c g e) := by
  unfold moveOut
  refine Quiet.trans ?_ (queueNotice_quiet _ _ _)
  exact Quiet.modCall _ _ _ fun _ => rfl

theorem redirectFails_quiet (s : State) (c : CallId) (g d : GroupId) (why : RedirectFail) :
    Quiet s (redirectFails s c g d why) := by
  unfold redirectFails
  refine Quiet.trans ?_ (queueNotice_quiet _ _ _)
  exact Quiet.modCall _ _ _ fun _ => rfl

theorem arrive_quiet (n : Nat) (s : State) (c : CallId) (g : GroupId) : Quiet s (arrive n s c g) := by
  induction n generalizing s g with
  | zero =>
    unfold arrive
    split
    · exact (redirectFails_quiet _ _ _ _ _).trans (placeCall_quiet _ _ _)
    · exact placeCall_quiet _ _ _
  | succ n ih =>
    unfold arrive
    split
    · split
      · exact (moveOut_quiet _ _ _ _).trans (ih _ _)
      · exact (redirectFails_quiet _ _ _ _ _).trans (placeCall_quiet _ _ _)
    · exact placeCall_quiet _ _ _

theorem redirect_quiet (s : State) (c : CallId) (g d : GroupId) (k : RedirectKind) : Quiet s (redirect s c g d k).1 := by
  unfold redirect
  split
  · exact redirectFails_quiet _ _ _ _ _
  · exact ((leaveQueueIfQueued_quiet _ _).trans (moveOut_quiet _ _ _ _)).trans (arrive_quiet _ _ _ _)

/-! ## Orbits, recalls, the station arbiter -/

theorem releaseOrbit_quiet (s : State) (o : OrbitId) (c : CallId) : Quiet s (releaseOrbit s o c) := by
  unfold releaseOrbit
  extract_lets s1 s0 s2
  have h1 : Quiet s s1 := Quiet.modOrbit _ _ _
  have h2 : Quiet s1 s2 := Quiet.freeOrder _ _
  refine (h1.trans h2).trans ?_
  exact Quiet.modCall _ _ _ fun _ => rfl

theorem leaveOrbit_quiet (s : State) (c : CallId) : Quiet s (leaveOrbit s c) := by
  unfold leaveOrbit
  split
  · exact releaseOrbit_quiet _ _ _
  · exact rfl' _

theorem withdrawAnnouncement_quiet (s : State) (c : CallId) : Quiet s (withdrawAnnouncement s c) := by
  unfold withdrawAnnouncement
  split
  · refine Quiet.trans ?_ (withdrawPage_quiet _ _ _)
    exact Quiet.modCall _ _ _ fun _ => rfl
  · exact rfl' _

theorem startRecall_quiet (s : State) (o : OrbitId) (c : CallId) (x : StationId) : Quiet s (startRecall s o c x) := by
  unfold startRecall
  extract_lets s1 s2 s3 s4
  have h1 : Quiet s s1 := Quiet.modOrbit _ _ _
  have h2 : Quiet s1 s2 := Quiet.modCall _ _ _ fun _ => rfl
  have h3 : Quiet s2 s3 := withdrawAnnouncement_quiet _ _
  have h4 : Quiet s3 s4 := ringJoin_quiet _ _ _ _
  refine (((h1.trans h2).trans h3).trans h4).trans ?_
  exact Quiet.modCall _ _ _ fun _ => rfl

theorem offer_quiet (s : State) (x : StationId) : Quiet s (offer s x) := by
  unfold offer
  split
  · split
    · exact startRecall_quiet _ _ _ _
    · split
      · exact ringJoin_quiet _ _ _ _
      · split
        · refine Quiet.trans ?_ (ringGroupCall_quiet _ _ _ _)
          exact Quiet.modGroup _ _ _ fun r => arbiterBookkeeping_view r x
        · exact rfl' _
  · exact rfl' _

theorem offerAll_quiet (s : State) (xs : List StationId) : Quiet s (offerAll s xs) := Quiet.foldl offer_quiet xs s

/-! ## The end of a call -/

theorem enterIdle_quiet (s : State) (x : StationId) : Quiet s (enterIdle s x) := Quiet.modStation s x _ fun _ => rfl

theorem releaseStation_quiet (s : State) (x : StationId) (next : Release) : Quiet s (releaseStation s x next) := by
  unfold releaseStation
  split
  · split
    · exact enterIdle_quiet _ _
    · exact Quiet.modStation _ _ _ fun _ => rfl
  · exact enterIdle_quiet _ _
  · exact Quiet.modStation _ _ _ fun _ => rfl

theorem freeCall_quiet (s : State) (c : CallId) (next : Release) : Quiet s (freeCall s c next) := by
  unfold freeCall
  extract_lets rings s1 s2 s3 s4 answering s5 s6 s7
  have h1 : Quiet s s1 := ringLeaveAll_quiet _ _ _
  have h2 : Quiet s1 s2 := leaveQueueIfQueued_quiet _ _
  have h3 : Quiet s2 s3 := leaveOrbit_quiet _ _
  have h4 : Quiet s3 s4 := withdrawAnnouncement_quiet _ _
  have h5 : Quiet s4 s5 := by
    show Quiet s4 (match (s4.call c).answering with
      | some x => releaseStation s4 x next
      | none => s4)
    split
    · exact releaseStation_quiet _ _ _
    · exact rfl' _
  have h6 : Quiet s5 s6 := leaveRingLists_quiet _ _
  have h7 : Quiet s6 s7 := Quiet.modCall _ _ _ fun _ => rfl
  exact ((((((h1.trans h2).trans h3).trans h4).trans h5).trans h6).trans h7).trans (offerAll_quiet _ _)

theorem refuseCall_quiet (s : State) (c : CallId) (why : RefuseCause) : Quiet s (refuseCall s c why) := by
  unfold refuseCall
  exact (freeCall_quiet _ _ _).trans (Quiet.report _ _)

/-! ## The advance of a group call -/

theorem rejoinQueue_quiet (s : State) (c : CallId) (g : GroupId) (a : Bool) : Quiet s (rejoinQueue s c g a) := by
  unfold rejoinQueue
  split
  · exact queueJoin_quiet _ _ _
  · split
    · dsimp only
      split
      · exact redirect_quiet _ _ _ _ _
      · exact (redirect_quiet _ _ _ _ _).trans (refuseCall_quiet _ _ _)
    · exact refuseCall_quiet _ _ _

theorem returnByNight_quiet (s : State) (c : CallId) (g : GroupId) (a : Bool) : Quiet s (returnByNight s c g a) := by
  unfold returnByNight
  split
  · dsimp only
    split
    · exact redirect_quiet _ _ _ _ _
    · exact (redirect_quiet _ _ _ _ _).trans (rejoinQueue_quiet _ _ _ _)
  · exact rejoinQueue_quiet _ _ _ _

theorem returnToQueue_quiet (s : State) (c : CallId) (g : GroupId) : Quiet s (returnToQueue s c g) := by
  unfold returnToQueue
  extract_lets s1
  have h1 : Quiet s s1 := Quiet.modCall _ _ _ fun _ => rfl
  refine h1.trans ?_
  clear_value s1
  split
  · split
    · dsimp only
      split
      · exact redirect_quiet _ _ _ _ _
      · exact (redirect_quiet _ _ _ _ _).trans (returnByNight_quiet _ _ _ _)
    · refine Quiet.trans ?_ (returnByNight_quiet _ _ _ _)
      exact Quiet.modCall _ _ _ fun _ => rfl
  · exact returnByNight_quiet _ _ _ _

theorem newRound_quiet (s : State) (c : CallId) (g : GroupId) : Quiet s (newRound s c g) := by
  unfold newRound
  extract_lets s1 limit
  have h1 : Quiet s s1 := Quiet.modCall _ _ _ fun _ => rfl
  refine h1.trans ?_
  clear_value s1
  split
  · dsimp only
    split
    · exact redirect_quiet _ _ _ _ _
    · exact (redirect_quiet _ _ _ _ _).trans (selectAndRing_quiet _ _ _)
  · exact selectAndRing_quiet _ _ _

theorem advance_quiet (s : State) (c : CallId) (g : GroupId) : Quiet s (advance s c g) := by
  unfold advance
  split
  · exact selectAndRing_quiet _ _ _
  · split
    · split
      · exact ringAvailable_quiet _ _ _
      · exact newRound_quiet _ _ _
    · exact returnToQueue_quiet _ _ _

theorem leaveWithoutTried_quiet (s : State) (c : CallId) (g : GroupId) : Quiet s (leaveWithoutTried s c g) := by
  unfold leaveWithoutTried
  split
  · refine Quiet.trans ?_ (advance_quiet _ _ _)
    exact Quiet.modCall _ _ _ fun _ => rfl
  · exact rfl' _

/-! ## Coverage -/

theorem coverTo_quiet (s : State) (c : CallId) (x : StationId) (g : GroupId) : Quiet s (coverTo s c x g) := by
  unfold coverTo
  extract_lets s1
  have h1 : Quiet s s1 := Quiet.modCall _ _ _ fun _ => rfl
  refine h1.trans ?_
  split
  · exact (queueNotice_quiet _ _ _).trans (arrive_quiet _ _ _ _)
  · exact refuseCall_quiet _ _ _

theorem coverageStep_quiet (s : State) (c : CallId) (x : StationId) : Quiet s (coverageStep s c x) := by
  unfold coverageStep
  split
  · exact Quiet.modCall _ _ _ fun _ => rfl
  · exact ((ringLeave_quiet _ _ _ _).trans (coverTo_quiet _ _ _ _)).trans (offer_quiet _ _)

theorem coverageRecallTo_quiet (s : State) (o : OrbitId) (c : CallId) (x : StationId) (g : GroupId) :
    Quiet s (coverageRecallTo s o c x g) := by
  unfold coverageRecallTo
  extract_lets rang s1 s2 s3 s4 s5 s6
  have h1 : Quiet s s1 := by
    show Quiet s (if _ then _ else _)
    split
    · exact ringLeave_quiet _ _ _ _
    · exact rfl' _
  have h2 : Quiet s1 s2 := withdrawAnnouncement_quiet _ _
  have h3 : Quiet s2 s3 := releaseOrbit_quiet _ _ _
  have h4 : Quiet s3 s4 := Quiet.modCall _ _ _ fun _ => rfl
  have h5 : Quiet s4 s5 := queueNotice_quiet _ _ _
  have h6 : Quiet s5 s6 := arrive_quiet _ _ _ _
  refine (((((h1.trans h2).trans h3).trans h4).trans h5).trans h6).trans ?_
  split
  · exact offer_quiet _ _
  · exact rfl' _

theorem recallNotIdle_quiet (s : State) (o : OrbitId) (c : CallId) (x : StationId) : Quiet s (recallNotIdle s o c x) := by
  unfold recallNotIdle
  split
  · exact coverageRecallTo_quiet _ _ _ _ _
  · exact Quiet.modCall _ _ _ fun _ => rfl

/-! ## Stations -/

theorem endVoicePage_quiet (s : State) (x : StationId) : Quiet s (endVoicePage s x) := by
  unfold endVoicePage
  split
  · exact endPage_quiet _ _ _
  · exact rfl' _

theorem goOut_quiet (s : State) (x : StationId) : Quiet s (goOut s x) := Quiet.modStation s x _ fun _ => rfl

theorem answerCall_quiet (s : State) (c : CallId) (x : StationId) : Quiet s (answerCall s c x) := by
  unfold answerCall
  extract_lets others s1 recalling s2 s3 s4 s5 s6
  have h1 : Quiet s s1 := ringLeaveAll_quiet _ _ _
  have h2 : Quiet s1 s2 := Quiet.modCall _ _ _ fun _ => rfl
  have h3 : Quiet s2 s3 := Quiet.modStation _ _ _ fun _ => rfl
  have h4 : Quiet s3 s4 := leaveRingLists_quiet _ _
  have h5 : Quiet s4 s5 := by
    show Quiet s4 (if _ then _ else _)
    split
    · exact leaveOrbit_quiet _ _
    · exact rfl' _
  have h6 : Quiet s5 s6 := Quiet.report _ _
  exact (((((h1.trans h2).trans h3).trans h4).trans h5).trans h6).trans (offerAll_quiet _ _)

theorem serviceOffRinging_quiet (s : State) (x : StationId) (c : CallId) : Quiet s (serviceOffRinging s x c) := by
  unfold serviceOffRinging
  extract_lets d t
  have h : Quiet s t := ringLeave_quiet _ _ _ _
  refine h.trans ?_
  clear_value t
  split
  · refine Quiet.trans ?_ (recallNotIdle_quiet _ _ _ _)
    exact Quiet.modCall _ _ _ fun _ => rfl
  · exact leaveWithoutTried_quiet _ _ _
  · split
    · exact coverTo_quiet _ _ _ _
    · exact refuseCall_quiet _ _ _

theorem noAnswer_quiet (s : State) (c : CallId) (g : GroupId) : Quiet s (noAnswer s c g) := by
  unfold noAnswer
  extract_lets rang s1 s2
  have h1 : Quiet s s1 := Quiet.modCall _ _ _ fun _ => rfl
  have h2 : Quiet s1 s2 := ringLeaveAll_quiet _ _ _
  exact ((h1.trans h2).trans (advance_quiet _ _ _)).trans (offerAll_quiet _ _)

theorem ringAllNoAnswer_quiet (s : State) (c : CallId) (g : GroupId) : Quiet s (ringAllNoAnswer s c g) := by
  unfold ringAllNoAnswer
  extract_lets s1
  have h1 : Quiet s s1 := Quiet.modCall _ _ _ fun _ => rfl
  refine h1.trans ?_
  split
  · exact rfl' _
  · split
    · exact redirectFails_quiet _ _ _ _ _
    · exact ((ringLeaveAll_quiet _ _ _).trans (redirect_quiet _ _ _ _ _)).trans (offerAll_quiet _ _)

theorem overflowQueued_quiet (s : State) (c : CallId) (g : GroupId) : Quiet s (overflowQueued s c g) := by
  unfold overflowQueued
  split
  · exact redirect_quiet _ _ _ _ _
  · exact Quiet.modCall _ _ _ fun _ => rfl

/-! ## Pickup and park -/

theorem takeCall_quiet (s : State) (c : CallId) (x : StationId) : Quiet s (takeCall s c x) := by
  unfold takeCall
  extract_lets rang s1 s2 s3 s4 s5 s6 s7 s8 s9
  have h1 : Quiet s s1 := leaveQueueIfQueued_quiet _ _
  have h2 : Quiet s1 s2 := ringLeaveAll_quiet _ _ _
  have h3 : Quiet s2 s3 := withdrawAnnouncement_quiet _ _
  have h4 : Quiet s3 s4 := leaveOrbit_quiet _ _
  have h5 : Quiet s4 s5 := endVoicePage_quiet _ _
  have h6 : Quiet s5 s6 := Quiet.modCall _ _ _ fun _ => rfl
  have h7 : Quiet s6 s7 := Quiet.modStation _ _ _ fun _ => rfl
  have h8 : Quiet s7 s8 := leaveRingLists_quiet _ _
  have h9 : Quiet s8 s9 := Quiet.report _ _
  exact ((((((((h1.trans h2).trans h3).trans h4).trans h5).trans h6).trans h7).trans h8).trans h9).trans (offerAll_quiet _ _)

theorem parkCall_quiet (s : State) (x : StationId) (c : CallId) (o : OrbitId) : Quiet s (parkCall s x c o) := by
  unfold parkCall
  extract_lets s0 s1 s2 s3
  have h1 : Quiet s s1 := Quiet.freeOrder _ _
  have h2 : Quiet s1 s2 := Quiet.modOrbit _ _ _
  have h3 : Quiet s2 s3 := Quiet.modCall _ _ _ fun _ => rfl
  refine ((h1.trans h2).trans h3).trans ?_
  exact Quiet.modStation _ _ _ fun _ => rfl

theorem announcePark_quiet (s : State) (x : StationId) (c : CallId) (o : OrbitId) (code : Option (DirectoryId × EntryId)) :
    Quiet s (announcePark s x c o code).1 := by
  unfold announcePark
  split
  · exact rfl' _
  · rename_i r hr
    have h : Quiet s r.state := by
      unfold parkAttempt at hr
      split at hr
      · cases hr
      · split at hr
        · cases hr
        · exact startAttempt_quiet hr
    refine h.trans ?_
    exact Quiet.modCall _ _ _ fun _ => rfl

theorem recallExpires_quiet (s : State) (o : OrbitId) (c : CallId) (x : StationId) : Quiet s (recallExpires s o c x) := by
  unfold recallExpires
  extract_lets s1
  have h1 : Quiet s s1 := Quiet.modOrbit _ _ _
  split
  · exact h1.trans (startRecall_quiet _ _ _ _)
  · exact h1.trans (recallNotIdle_quiet _ _ _ _)

theorem recallRingExpires_quiet (s : State) (o : OrbitId) (c : CallId) (x : StationId) :
    Quiet s (recallRingExpires s o c x) := by
  unfold recallRingExpires
  split
  · exact coverageRecallTo_quiet _ _ _ _ _
  · exact Quiet.modCall _ _ _ fun _ => rfl

/-! ## Members -/

theorem setLogin_quiet (s : State) (x : StationId) (v : Bool) (gs : List GroupId) : Quiet s (setLogin s x v gs) := by
  unfold setLogin
  refine Quiet.foldl (fun t g => ?_) _ _
  exact Quiet.modGroup _ _ _ fun r => groupView_members r _ fun m => by split <;> rfl

theorem logoutRing_quiet (s : State) (x : StationId) (gs : List GroupId) : Quiet s (logoutRing s x gs) := by
  unfold logoutRing
  split
  · exact ((ringLeave_quiet _ _ _ _).trans (leaveWithoutTried_quiet _ _ _)).trans (offer_quiet _ _)
  · exact rfl' _

theorem switchInService_quiet (s : State) (g : GroupId) : Quiet s (switchInService s g) := by
  unfold switchInService
  extract_lets s1
  have h1 : Quiet s s1 := by
    show Quiet s (if _ then _ else _)
    split
    · refine Quiet.foldl (fun t c => ?_) _ _
      unfold joinAvailable
      exact Quiet.foldl (fun t x => ringJoin_quiet t c .group x) _ _
    · exact rfl' _
  refine h1.trans (Quiet.foldl (fun t c => ?_) _ _)
  unfold serveQueued
  split
  · exact ringAvailable_quiet _ _ _
  · exact rfl' _

theorem switchNight_quiet (s : State) (g : GroupId) : Quiet s (switchNight s g) := by
  unfold switchNight
  split
  · exact Quiet.foldl (fun t c => redirect_quiet t c g _ .night) _ _
  · exact rfl' _

end Sys2Proof.Machine
end

