-- ==== Sys2Proof/Laws/Field.lean ====
section
/-!
SUPPORT. The field line's shared operations: the walk of the scan always finds an exchange, so the line arbiter never leaves the
line without work; the arbiter touches the line, the pending broadcast, one pending route and the scan alone; a latched fault
leaves every zone's service and fault in agreement.
-/

namespace Sys2Proof.Machine

/-! ## The scan and the line arbiter -/

/-- In a scan whose counter is not 0 the walk passes the ABSENT addresses up to the first that is not. -/
theorem scanWalk_past_absent (s : State) (n : Nat) (p : ModuleId) (c : Nat) (hc : c ≠ 0) :
    ∀ (k : Nat) (m : ModuleId), p.val + k = m.val →
      (∀ q, p ≤ q → q < m → (s.fieldModule q).state = .absent) → (s.fieldModule m).state ≠ .absent →
        scanWalk s (n + k + 1) p c = (scanExchange c (s.fieldModule m).state).map fun x => (m, c, x) := by
  intro k
  induction k generalizing p with
  | zero =>
    intro m hm _ hs
    have : p = m := Fin.ext (by omega)
    subst this
    unfold scanWalk
    cases hq : (s.fieldModule p).state <;> simp_all [scanExchange]
  | succ k ih =>
    intro m hm ha hs
    have hp : (s.fieldModule p).state = .absent := ha p (Fin.le_refl _) (by show p.val < m.val; omega)
    have hlt : p.val < 23 := by omega
    have hv : (p + 1).val = p.val + 1 := by
      simp [Fin.val_add]; omega
    have he : scanExchange c (s.fieldModule p).state = none := by simp [hp, scanExchange, hc]
    rw [show n + (k + 1) + 1 = n + k + 1 + 1 by omega]
    conv => lhs; unfold scanWalk
    simp only [he, nextAddress, hlt, if_true]
    refine ih (p + 1) m (by omega) ?_ hs
    intro q h1 h2
    exact ha q (by show p.val ≤ q.val; have : (p+1).val ≤ q.val := h1; omega) h2

/-- The exchange that the scan makes at an address it does not pass over. -/
def scanTakes (s : State) (m : ModuleId) : Exchange :=
  if (s.fieldModule m).state = .present ∨ (s.fieldModule m).state = .missing then .poll else .identify

theorem scanExchange_takes (s : State) (m c) (h : (s.fieldModule m).state ≠ .absent ∨ c = 0) :
    scanExchange c (s.fieldModule m).state = some (scanTakes s m) := by
  unfold scanTakes
  cases hq : (s.fieldModule m).state <;> simp_all [scanExchange]

/-- The walk ends at the first address of the same scan that is not ABSENT. -/
theorem scanWalk_first (s : State) (n p c m) (hc : c ≠ 0) (hle : p ≤ m)
    (ha : ∀ q, p ≤ q → q < m → (s.fieldModule q).state = .absent) (hs : (s.fieldModule m).state ≠ .absent) (hn : m.val - p.val + 1 ≤ n) :
    scanWalk s n p c = some (m, c, scanTakes s m) := by
  have hle' : p.val ≤ m.val := hle
  have := scanWalk_past_absent s (n - (m.val - p.val + 1)) p c hc (m.val - p.val) m (by omega) ha hs
  rw [show n - (m.val - p.val + 1) + (m.val - p.val) + 1 = n by omega] at this
  rw [this, scanExchange_takes s m c (.inl hs)]; rfl

/-- With only ABSENT addresses ahead, the walk goes on at address 0 of the next scan. -/
theorem scanWalk_wraps (s : State) (c : Nat) (hc : c ≠ 0) : ∀ (k : Nat) (p : ModuleId) (n : Nat), p.val + k = 23 →
    (∀ q, p ≤ q → (s.fieldModule q).state = .absent) → scanWalk s (n + k + 1) p c = scanWalk s n 0 (nextScan c) := by
  intro k
  induction k with
  | zero =>
    intro p n hp ha
    have := ha p (Fin.le_refl _)
    conv => lhs; unfold scanWalk
    simp [this, scanExchange, hc, nextAddress, show ¬ p.val < 23 by omega]
  | succ k ih =>
    intro p n hp ha
    have h0 := ha p (Fin.le_refl _)
    conv => lhs; unfold scanWalk
    have hlt : p.val < 23 := by omega
    simp only [h0, scanExchange, hc, if_false, nextAddress, hlt, if_true]
    have hv : (p + 1).val = p.val + 1 := by simp [Fin.val_add]; omega
    exact ih (p + 1) n (by omega) (fun q h => ha q (by show p.val ≤ q.val; have : (p+1).val ≤ q.val := h; omega))

/-- In a scan whose counter is 0 address 0 is taken whatever its state. -/
theorem scanWalk_address0 (s : State) (n) : scanWalk s (n+1) 0 0 = some (0, 0, scanTakes s 0) := by
  unfold scanWalk
  rw [scanExchange_takes s 0 0 (.inr rfl)]

/-- With every module ABSENT the walk ends at address 0 of the scan whose counter is 0. -/
theorem scanWalk_all_absent (s : State) (ha : ∀ q, (s.fieldModule q).state = .absent) :
    ∀ (d n c : Nat), c ≠ 0 → c ≤ 15 → 16 ≤ c + d → 24 * d + 1 ≤ n → scanWalk s n 0 c = some (0, 0, scanTakes s 0) := by
  intro d
  induction d with
  | zero =>
    intro n c _ _ _ _
    omega
  | succ d ih =>
    intro n c hc h15 h1 h2
    have := scanWalk_wraps s c hc 23 0 (n - 24) (by rfl) (fun q _ => ha q)
    rw [show n - 24 + 23 + 1 = n by omega] at this
    rw [this]
    unfold nextScan
    by_cases h : c < 15
    · simp only [h, if_true]; exact ih _ _ (by omega) (by omega) (by omega) (by omega)
    · simp only [h, if_false]
      obtain ⟨m, hm⟩ : ∃ m, n - 24 = m + 1 := ⟨n - 25, by omega⟩
      rw [hm, scanWalk_address0]

/-- With enough addresses ahead of it the walk finds an exchange: at the latest when the counter is 0. -/
theorem scanWalk_finds (s : State) (n : Nat) (pos : ModuleId) (counter : Nat)
    (h : (counter = 0 ∧ 0 < n) ∨ (15 - counter) * 24 + (24 - pos.val) < n) : scanWalk s n pos counter ≠ none := by
  induction n generalizing pos counter with
  | zero => omega
  | succ n ih =>
    unfold scanWalk
    cases hx : scanExchange counter (s.fieldModule pos).state with
    | some x => simp
    | none =>
      have hc : counter ≠ 0 := by
        intro h0
        subst h0
        cases hm : (s.fieldModule pos).state <;> simp [scanExchange, hm] at hx
      apply ih
      have hp := pos.isLt
      unfold nextAddress
      by_cases h23 : pos.val < 23
      · have hv : (pos + 1).val = pos.val + 1 := by simp only [Fin.val_add]; omega
        simp only [h23, if_true, hv]
        omega
      · simp only [h23, if_false, nextScan]
        by_cases h15 : counter < 15
        · simp only [h15, if_true, Fin.val_zero]; omega
        · simp only [h15, if_false, Fin.val_zero, true_and]; omega

/-- The walk of a scan always ends at an exchange. -/
theorem scanWalk_fuel (s : State) (pos : ModuleId) (counter : Nat) : scanWalk s scanFuel pos counter ≠ none :=
  scanWalk_finds s _ pos counter (by have := pos.isLt; unfold scanFuel; omega)

/-- What the line arbiter may change: the line, the pending broadcast, the pending routes and the scan. -/
structure LineOnly (s t : State) : Prop where
  sct : t.sct = s.sct
  de : t.de = s.de
  ppu : t.ppu = s.ppu
  pdir : t.pdir = s.pdir
  pgc : t.pgc = s.pgc
  ag : t.ag = s.ag
  cs : t.cs = s.cs
  cl : t.cl = s.cl
  pending : t.pending = s.pending
  zones : t.flc.zones = s.flc.zones
  modules : ∀ m, (t.fieldModule m).identity = (s.fieldModule m).identity ∧
    (t.fieldModule m).appliedRoute = (s.fieldModule m).appliedRoute

theorem scanStep_only (s : State) : LineOnly s (scanStep s) := by
  unfold scanStep
  split <;> exact ⟨rfl, rfl, rfl, rfl, rfl, rfl, rfl, rfl, rfl, rfl, fun _ => ⟨rfl, rfl⟩⟩

theorem lineArbiter_only (s : State) : LineOnly s (lineArbiter s) := by
  unfold lineArbiter
  split
  · exact ⟨rfl, rfl, rfl, rfl, rfl, rfl, rfl, rfl, rfl, rfl, fun _ => ⟨rfl, rfl⟩⟩
  · split
    · split
      · rename_i m _ _ _ _
        refine ⟨rfl, rfl, rfl, rfl, rfl, rfl, rfl, rfl, rfl, rfl, fun j => ?_⟩
        have e := State.modModule_apply s m j fun d => { d with pendingRoute := none }
        show (((s.modModule m fun d => { d with pendingRoute := none }).fieldModule j).identity = _ ∧
          ((s.modModule m fun d => { d with pendingRoute := none }).fieldModule j).appliedRoute = _)
        rw [e]
        split
        · rename_i hj; subst hj; exact ⟨rfl, rfl⟩
        · exact ⟨rfl, rfl⟩
      · exact scanStep_only s
    · exact scanStep_only s

theorem scanStep_used (s : State) : LineIsUsed (scanStep s) := by
  unfold scanStep LineIsUsed
  split
  · simp
  · rename_i h; exact absurd h (scanWalk_fuel s _ _)

/-- The line arbiter always gives the line something to do. -/
theorem lineArbiter_used (s : State) : LineIsUsed (lineArbiter s) := by
  unfold lineArbiter
  split
  · simp [LineIsUsed]
  · split
    · split
      · simp [LineIsUsed]
      · exact scanStep_used s
    · exact scanStep_used s

/-- The end of an exchange gives the line its next work. -/
theorem endExchange_used (s : State) (m : ModuleId) (x : Exchange) : LineIsUsed (endExchange s m x) := by
  unfold endExchange
  split <;> exact lineArbiter_used _

/-! ## Latched faults -/

/-- A zone's service and latched fault agree. -/
def Zone.agrees (z : Zone) : Prop := (z.service = .inService → z.fault = none) ∧ (z.service = .faulted → z.fault ≠ none)

theorem Zone.agrees_latch (z : Zone) (f : FaultKind) : (z.latch f).agrees := by
  refine ⟨?_, fun _ => by simp [Zone.latch]⟩
  intro hs
  simp only [Zone.latch] at hs
  split at hs
  · cases hs
  · contradiction

theorem Zone.agrees_identified {z : Zone} (k : ZoneKind) (h : z.agrees) : (z.identified k).agrees := by
  unfold Zone.agrees Zone.identified at *
  cases hs : z.service <;> cases hf : z.fault <;> simp_all

/-- A quiet change keeps every zone's service and fault. -/
theorem Quiet.zoneAgrees {s t : State} (h : Quiet s t) (hs : ZoneServiceFollowsFault s) : ZoneServiceFollowsFault t := by
  intro z
  have e := h.health z
  simp only [Zone.health, Prod.mk.injEq] at e
  rw [e.2.1, e.2.2.1]
  exact hs z

/-- A zone put in place of another whose service and fault agree keeps the invariant, whatever follows its change. -/
theorem changeZone_agrees {s : State} {z : ZoneId} {d : Zone} (hd : d.agrees) (hs : ZoneServiceFollowsFault s) :
    ZoneServiceFollowsFault (changeZone s z d) := by
  have h1 : ZoneServiceFollowsFault (s.modZone z fun _ => d) := by
    intro y
    rw [State.modZone_apply]
    split
    · exact hd
    · exact hs y
  unfold changeZone
  extract_lets old t u
  have h2 : ZoneServiceFollowsFault u := by
    show ZoneServiceFollowsFault (if _ then _ else _)
    split
    · exact h1
    · exact h1
  split
  · exact (zoneLost_quiet u z).zoneAgrees h2
  · exact h2

/-- Latching a fault keeps the invariant. -/
theorem latchFault_agrees {s : State} (z : ZoneId) (f : FaultKind) (hs : ZoneServiceFollowsFault s) :
    ZoneServiceFollowsFault (latchFault s z f) :=
  changeZone_agrees (Zone.agrees_latch _ f) hs

theorem latchNoKind_agrees {s : State} (z : ZoneId) (f : FaultKind) (hs : ZoneServiceFollowsFault s) :
    ZoneServiceFollowsFault (latchNoKind s z f) :=
  changeZone_agrees (d := { (s.zone z).latch f with kind := .none }) (Zone.agrees_latch _ f) hs

end Sys2Proof.Machine
end

