-- ==== Sys2Proof/Laws/PerInstr.lean ====
section
/-!
SUPPORT. A statement for every command as syntax: a request of a legal length is one whose kind table 11.2 names, and it fits in a
frame.
-/

namespace Sys2Proof.Laws.F

/-- A request of a legal length has a kind that table 11.2 names and a header that fits in a frame. -/
def Statement (i : Instr) : Prop :=
  ∀ kind h, i.request? = some (kind, h) → i.legalLength = true →
    requestLengths kind ≠ none ∧ h.length.toNat ≤ 15 ∧ i.headerOk = true

/-- No request body of table 11.2 is longer than 15 bytes. -/
theorem requestLengths_le {kind : Byte} {ls : List Nat} {n : Nat} (hk : requestLengths kind = some ls) (hn : n ∈ ls) :
    n ≤ 15 := by
  unfold requestLengths at hk
  split at hk <;> simp only [Option.some.injEq, reduceCtorEq] at hk <;> subst hk <;> simp at hn <;> omega

/-- The statement for any command that is a request. -/
theorem of_request {i : Instr} {k : Byte} {h : Header} (hr : i.request? = some (k, h)) : Statement i := by
  intro kind h' hr' hl
  rw [hr] at hr'
  obtain ⟨rfl, rfl⟩ := Prod.mk.inj (Option.some.inj hr')
  simp only [Instr.legalLength, hr] at hl
  cases hk : requestLengths k with
  | none => simp [hk] at hl
  | some ls =>
    simp only [hk, Option.getD_some, List.contains_iff_mem] at hl
    have hle := requestLengths_le hk hl
    refine ⟨by simp, hle, ?_⟩
    simp only [Instr.headerOk, hr, decide_eq_true_eq]
    omega

/-- The statement for any command that is no request. -/
theorem of_event {i : Instr} (hr : i.request? = none) : Statement i := by
  intro kind h hr'
  rw [hr] at hr'
  cases hr'

theorem stationSet (h station cls pickup coverage service label) : Statement (.stationSet h station cls pickup coverage service label) := of_request rfl
theorem groupSet (h body) : Statement (.groupSet h body) := of_request rfl
theorem memberAdd (h group station weight listPos prefPos) : Statement (.memberAdd h group station weight listPos prefPos) := of_request rfl
theorem memberRemove (h group station) : Statement (.memberRemove h group station) := of_request rfl
theorem announceSet (h body) : Statement (.announceSet h body) := of_request rfl
theorem beaconSet (h group zone channel debounce) : Statement (.beaconSet h group zone channel debounce) := of_request rfl
theorem pickupGroupSet (h group count link0 link1 link2) : Statement (.pickupGroupSet h group count link0 link1 link2) := of_request rfl
theorem classSet (h body) : Statement (.classSet h body) := of_request rfl
theorem directorySet (h directory base length) : Statement (.directorySet h directory base length) := of_request rfl
theorem entrySet (h body) : Statement (.entrySet h body) := of_request rfl
theorem pageGroupSet (h body) : Statement (.pageGroupSet h body) := of_request rfl
theorem cadenceSet (h channel slot period onTicks) : Statement (.cadenceSet h channel slot period onTicks) := of_request rfl
theorem moduleSet (h moduleNo kind) : Statement (.moduleSet h moduleNo kind) := of_request rfl
theorem stationQuery (h station) : Statement (.stationQuery h station) := of_request rfl
theorem callQuery (h call part) : Statement (.callQuery h call part) := of_request rfl
theorem groupQuery (h group part) : Statement (.groupQuery h group part) := of_request rfl
theorem pickupGroupQuery (h group part) : Statement (.pickupGroupQuery h group part) := of_request rfl
theorem orbitQuery (h orbit) : Statement (.orbitQuery h orbit) := of_request rfl
theorem classQuery (h cls) : Statement (.classQuery h cls) := of_request rfl
theorem directoryQuery (h directory) : Statement (.directoryQuery h directory) := of_request rfl
theorem entryQuery (h entry) : Statement (.entryQuery h entry) := of_request rfl
theorem pageGroupQuery (h pageGroup) : Statement (.pageGroupQuery h pageGroup) := of_request rfl
theorem pageQuery (h page part) : Statement (.pageQuery h page part) := of_request rfl
theorem busQuery (h bus) : Statement (.busQuery h bus) := of_request rfl
theorem alertQuery (h channel) : Statement (.alertQuery h channel) := of_request rfl
theorem moduleQuery (h moduleNo) : Statement (.moduleQuery h moduleNo) := of_request rfl
theorem zoneQuery (h zone) : Statement (.zoneQuery h zone) := of_request rfl
theorem storeQuery (h) : Statement (.storeQuery h) := of_request rfl
theorem status (h) : Statement (.status h) := of_request rfl
theorem groupMode (h group mode) : Statement (.groupMode h group mode) := of_request rfl
theorem storeSave (h) : Statement (.storeSave h) := of_request rfl
theorem start (h) : Statement (.start h) := of_request rfl
theorem restart (h) : Statement (.restart h) := of_request rfl
theorem offHook (h station event) : Statement (.offHook h station event) := of_request rfl
theorem onHook (h station event) : Statement (.onHook h station event) := of_request rfl
theorem serviceOff (h station event) : Statement (.serviceOff h station event) := of_request rfl
theorem serviceOn (h station event) : Statement (.serviceOn h station event) := of_request rfl
theorem dndOn (h station event) : Statement (.dndOn h station event) := of_request rfl
theorem dndOff (h station event) : Statement (.dndOff h station event) := of_request rfl
theorem callOffer (h kind target priority hostRef) : Statement (.callOffer h kind target priority hostRef) := of_request rfl
theorem callGone (h call generation) : Statement (.callGone h call generation) := of_request rfl
theorem memberLogin (h station group) : Statement (.memberLogin h station group) := of_request rfl
theorem memberLogout (h station group) : Statement (.memberLogout h station group) := of_request rfl
theorem groupPickup (h station call generation) : Statement (.groupPickup h station call generation) := of_request rfl
theorem directedPickup (h station target generation) : Statement (.directedPickup h station target generation) := of_request rfl
theorem queuePickup (h station group) : Statement (.queuePickup h station group) := of_request rfl
theorem park (h station orbit announce directory entry) : Statement (.park h station orbit announce directory entry) := of_request rfl
theorem retrieve (h station orbit generation) : Statement (.retrieve h station orbit generation) := of_request rfl
theorem page (h requester directory entry source) : Statement (.page h requester directory entry source) := of_request rfl
theorem pageEnd (h page generation requester) : Statement (.pageEnd h page generation requester) := of_request rfl
theorem summon (h requester group) : Statement (.summon h requester group) := of_request rfl
theorem summonHush (h requester group) : Statement (.summonHush h requester group) := of_request rfl
theorem zoneRestore (h zone generation) : Statement (.zoneRestore h zone generation) := of_request rfl
theorem zoneService (h zone setting) : Statement (.zoneService h zone setting) := of_request rfl
theorem unknownRequest (h kind) : Statement (.unknownRequest h kind) := of_request rfl
theorem frameSumError (frame) : Statement (.frameSumError frame) := of_event rfl
theorem frameGap (received next) : Statement (.frameGap received next) := of_event rfl
theorem frameLengthError (kind length) : Statement (.frameLengthError kind length) := of_event rfl
theorem framerSilence : Statement .framerSilence := of_event rfl
theorem frameOverrun (frame) : Statement (.frameOverrun frame) := of_event rfl
theorem transmitFrameEnd : Statement .transmitFrameEnd := of_event rfl
theorem warmRestart : Statement .warmRestart := of_event rfl
theorem powerOn : Statement .powerOn := of_event rfl
theorem resetPin : Statement .resetPin := of_event rfl
theorem saveCompletion (agree) : Statement (.saveCompletion agree) := of_event rfl
theorem wrapupExpiry (station) : Statement (.wrapupExpiry station) := of_event rfl
theorem coverageExpiry (call) : Statement (.coverageExpiry call) := of_event rfl
theorem noAnswerExpiry (call) : Statement (.noAnswerExpiry call) := of_event rfl
theorem ringAllExpiry (call) : Statement (.ringAllExpiry call) := of_event rfl
theorem recallRingExpiry (call) : Statement (.recallRingExpiry call) := of_event rfl
theorem overflowExpiry (call) : Statement (.overflowExpiry call) := of_event rfl
theorem announceDelayExpiry (group) : Statement (.announceDelayExpiry group) := of_event rfl
theorem debounceExpiry (group) : Statement (.debounceExpiry group) := of_event rfl
theorem recallExpiry (orbit) : Statement (.recallExpiry orbit) := of_event rfl
theorem waitTimeout (page) : Statement (.waitTimeout page) := of_event rfl
theorem endDeadlineExpiry (page) : Statement (.endDeadlineExpiry page) := of_event rfl
theorem preludeExpiry (page) : Statement (.preludeExpiry page) := of_event rfl
theorem cadenceAdvance (channel) : Statement (.cadenceAdvance channel) := of_event rfl
theorem identifyAnswer (address kind revision) : Statement (.identifyAnswer address kind revision) := of_event rfl
theorem routeAnswer (address settingA settingB) : Statement (.routeAnswer address settingA settingB) := of_event rfl
theorem pollAnswer (address wordA wordB) : Statement (.pollAnswer address wordA wordB) := of_event rfl
theorem invalidAnswer (frame) : Statement (.invalidAnswer frame) := of_event rfl
theorem answerTimeout : Statement .answerTimeout := of_event rfl
theorem answerGap (received) : Statement (.answerGap received) := of_event rfl
theorem alertSent : Statement .alertSent := of_event rfl
theorem fieldLineRestartHoldoff : Statement .fieldLineRestartHoldoff := of_event rfl
theorem tickCounterAdvance : Statement .tickCounterAdvance := of_event rfl
theorem frameDiscardedAtRestart (received) : Statement (.frameDiscardedAtRestart received) := of_event rfl
theorem strayFieldLineBytes (received) : Statement (.strayFieldLineBytes received) := of_event rfl

end Sys2Proof.Laws.F
end

