-- ==== Sys2Proof/Laws/Refusals.lean ====
section
/-!
SUPPORT. What the owners of STATION EVENT answer in SETUP and what the thirteen owners of a configuration write answer while a save
is in progress: the range check of R167 first, then NOT RUNNING (R173) or STORE BUSY (R180).
-/

namespace Sys2Proof.Machine

/-- A STATION EVENT in SETUP (R173). -/
theorem stationEventOwner_setup (st : Half) (e : Byte) (act) (s : State) (hn : s.running = false) :
    stationEventOwner st e act s = .refuse (if st.toNat ≤ 383 ∧ e.toNat ≤ 5 then .notRunning else .badValue) := by
  unfold stationEventOwner readStation readFin
  by_cases h1 : st.toNat < 384
  · by_cases h2 : e.toNat < 6
    · simp [h1, h2, hn, show st.toNat ≤ 383 from by omega, show e.toNat ≤ 5 from by omega]
    · simp [h2, show ¬ e.toNat ≤ 5 from by omega]
  · simp [h1, show ¬ st.toNat ≤ 383 from by omega]

/-- The refusal of a configuration request while a save is in progress (R180): the range check of its owner comes first. -/
abbrev savingRefusal (inRange : Bool) : Answer := .refuse (if inRange then .storeBusy else .badValue)

section Saving

variable (s : State) (hs : s.isSaving = true) (h : Header)
include hs

theorem stationSetOwner_saving (x c p v k l) : stationSetOwner x c p v k l s =
    savingRefusal (configurationInRange s (.stationSet h x c p v k l)) := by
  unfold savingRefusal stationSetOwner configurationInRange
  cases h1 : readStation x <;> cases h2 : readStationCfg c p v k l <;> simp [hs, h1, h2]

theorem groupSetOwner_saving (b : GroupSetBody) : groupSetOwner b s =
    savingRefusal (configurationInRange s (.groupSet h b)) := by
  unfold savingRefusal groupSetOwner configurationInRange groupSetInRange
  have e0 : ∀ n : Nat, n < 256 → (b.action == BitVec.ofNat 8 n) = decide (b.action.toNat = n) := by
    intro n hn
    by_cases h0 : b.action = BitVec.ofNat 8 n
    · have : b.action.toNat = n := by rw [h0]; simp; omega
      simp [h0]; omega
    · have : b.action.toNat ≠ n := fun hh => h0 (BitVec.eq_of_toNat_eq (by simp; omega))
      simp [h0, this]
  have e1 : (b.action == 0) = decide (b.action.toNat = 0) := e0 0 (by omega)
  have e2 : (b.action == 1) = decide (b.action.toNat = 1) := e0 1 (by omega)
  cases h1 : readFin 64 b.group.toNat with
  | none => simp [h1]
  | some g =>
    simp only [h1, e1, e2]
    generalize b.action.toNat = a
    match a with
    | 0 => cases h2 : readGroupCfg g b <;> simp [hs]
    | 1 => simp [hs]
    | n + 2 => simp

theorem memberAddOwner_saving (g x w i j) : memberAddOwner g x w i j s =
    savingRefusal (configurationInRange s (.memberAdd h g x w i j)) := by
  unfold savingRefusal memberAddOwner configurationInRange memberInRange positionsInRange
  cases hg : readFin 64 g.toNat with
  | none => simp [hg]
  | some a =>
    cases hx : readStation x with
    | none => simp [hg, hx]
    | some b =>
      cases hw : readRange 1 8 w.toNat with
      | none => simp [hg, hx, hw]
      | some c =>
        cases h1 : readPosition 31 (s.group a).members.length i <;> cases h2 : readPosition 3 (s.station b).memberships.length j <;>
          by_cases hu : (s.group a).service = .unused <;> simp [hg, hx, hw, hs, h1, h2, hu]

theorem memberRemoveOwner_saving (g x) : memberRemoveOwner g x s =
    savingRefusal (configurationInRange s (.memberRemove h g x)) := by
  unfold savingRefusal memberRemoveOwner configurationInRange memberInRange
  cases hg : readFin 64 g.toNat with
  | none => simp [hg]
  | some a => cases hx : readStation x <;> by_cases hu : (s.group a).service = .unused <;> simp [hg, hx, hs, hu]

theorem announceSetOwner_saving (b : AnnounceSetBody) : announceSetOwner b s =
    savingRefusal (configurationInRange s (.announceSet h b)) := by
  unfold savingRefusal announceSetOwner configurationInRange groupInRange
  cases hg : readFin 64 b.group.toNat with
  | none => simp [hg]
  | some a => cases hx : readAnnounce b <;> by_cases hu : (s.group a).service = .unused <;> simp [hg, hx, hs, hu]

theorem beaconSetOwner_saving (g z k d) : beaconSetOwner g z k d s =
    savingRefusal (configurationInRange s (.beaconSet h g z k d)) := by
  unfold savingRefusal beaconSetOwner configurationInRange groupInRange
  cases hg : readFin 64 g.toNat with
  | none => simp [hg]
  | some a => cases hx : readBeacon z k d <;> by_cases hu : (s.group a).service = .unused <;> simp [hg, hx, hs, hu]

theorem pickupGroupSetOwner_saving (g n a b c) : pickupGroupSetOwner g n a b c s =
    savingRefusal (configurationInRange s (.pickupGroupSet h g n a b c)) := by
  unfold savingRefusal pickupGroupSetOwner configurationInRange
  cases hg : readFin 48 g.toNat <;> cases hx : readLinks n a b c <;> simp [hg, hx, hs]
  rename_i p ls
  by_cases h1 : p ∈ ls <;> cases h2 : noRepeat ls <;> simp [h1]

theorem classSetOwner_saving (b : ClassSetBody) : classSetOwner b s =
    savingRefusal (configurationInRange s (.classSet h b)) := by
  unfold savingRefusal classSetOwner configurationInRange readFin
  by_cases h1 : b.cls.toNat < 4 <;> cases hx : readClass b <;> simp [h1, hx, hs]

theorem directorySetOwner_saving (d b n) : directorySetOwner d b n s =
    savingRefusal (configurationInRange s (.directorySet h d b n)) := by
  unfold savingRefusal directorySetOwner configurationInRange readFin readRange
  by_cases h1 : d.toNat < 8 <;> by_cases h2 : b.toNat ≤ 127 <;> by_cases h3 : n.toNat ≤ 128 <;>
   by_cases h4 : b.toNat + n.toNat ≤ 128 <;> simp [h1, h2, h3, h4, hs] <;> omega

theorem entrySetOwner_saving (b : EntrySetBody) : entrySetOwner b s =
    savingRefusal (configurationInRange s (.entrySet h b)) := by
  unfold savingRefusal entrySetOwner configurationInRange readFin
  by_cases h1 : b.entry.toNat < 128 <;> cases hx : readEntry b <;> simp [h1, hx, hs]

theorem pageGroupSetOwner_saving (b : PageGroupSetBody) : pageGroupSetOwner b s =
    savingRefusal (configurationInRange s (.pageGroupSet h b)) := by
  unfold savingRefusal pageGroupSetOwner configurationInRange
  cases h1 : readFin 64 b.pageGroup.toNat with
  | none => simp [h1]
  | some g => cases hx : readPageGroup g b <;> simp [h1, hx, hs]

theorem cadenceSetOwner_saving (k v p n) : cadenceSetOwner k v p n s =
    savingRefusal (configurationInRange s (.cadenceSet h k v p n)) := by
  unfold savingRefusal cadenceSetOwner configurationInRange readFin
  by_cases h1 : k.toNat < 16 <;> cases h2 : readSlot v <;> cases hx : readCadence p n <;> simp [h1, h2, hx, hs]

theorem moduleSetOwner_saving (m t) : moduleSetOwner m t s =
    savingRefusal (configurationInRange s (.moduleSet h m t)) := by
  unfold savingRefusal moduleSetOwner configurationInRange readFin
  by_cases h1 : m.toNat < 24 <;> cases hx : readModuleType t <;> simp [h1, hx, hs]

end Saving

end Sys2Proof.Machine
end

