-- ==== Sys2Proof/Laws/Store.lean ====
section
/-!
SUPPORT. The store image's sum (R178 to R181): when it is good, and what the steps of a save and the cold load make of it.
-/

namespace Sys2Proof.Machine

theorem badSum_ne (i : Image) : badSum i ≠ imageSum i := by
  intro h
  simp [badSum] at h

/-- A store with the bad sum that a save begins with is not good. -/
theorem Cs.good_badSum {c : Cs} (h : c.sum = badSum c.image) : c.good = false := by
  simp [Cs.good, h, badSum_ne]

/-- A store with the computed sum is good. -/
theorem Cs.good_imageSum {c : Cs} (h : c.sum = imageSum c.image) : c.good = true := by simp [Cs.good, h]

theorem Cs.loaded_good {c : Cs} (h : c.good = true) : c.loaded = c.image := by simp [Cs.loaded, h]
theorem Cs.loaded_bad {c : Cs} (h : c.good = false) : c.loaded = Image.empty := by simp [Cs.loaded, h]

theorem Cs.coldLoad_good {c : Cs} (h : c.good = true) :
    c.coldLoad = { c with state := .valid, count := c.image.saveCount, last := .none } := by
  simp [Cs.coldLoad, Cs.loaded, h]

theorem Cs.coldLoad_bad {c : Cs} (h : c.good = false) : c.coldLoad = { c with state := .invalid, count := 0, last := .none } := by
  simp [Cs.coldLoad, Cs.loaded, h, Image.empty]

/-- The sum over the empty defaults. -/
theorem imageSum_empty : imageSum Image.empty = 8184#16 := by decide +kernel

/-- The store of the reset state, never written, reads with a bad sum. -/
theorem reset_store_bad : State.reset.cs.good = false := by
  show (0xFFFF#16 == imageSum Image.empty) = false
  rw [imageSum_empty]
  rfl

/-- A save that succeeds leaves a good store, and a save that begins a bad one. -/
theorem saveSucceeds_good (s : State) (copy : Image) : (saveSucceeds s copy).cs.good = true :=
  Cs.good_imageSum rfl

theorem beginSave_bad (s : State) : (beginSave s).cs.good = false := Cs.good_badSum rfl

end Sys2Proof.Machine
end

