-- ==== Sys2Proof/Tests/Slice0.lean ====
section
/-!
SUPPORT. The model's own tests: ill-formed commands that the check refuses, frames written out from chapter 11, steps of the
manual's worked examples, and for each statement of the certificate states and operands that meet its hypotheses.
-/

namespace Sys2Proof.Machine.Tests

set_option Elab.async false

/-! ## Small states -/

/-- A request header with tag 7 and the given length. -/
def hd (n : Byte) : Header := { tag := 7, length := n }

/-- The machine after reset, in RUN. -/
def run : State := { State.reset with cl := { State.reset.cl with mode := .run } }

/-- The same at a tick. -/
def runAt (t : Tick) : State := { run with sct := { run.sct with tick := t } }

/-- The state that a step leaves. -/
def got : Result → State
  | .next s => s
  | _ => State.reset

/-- The outcome code and the fields of the reply that a request leaves last in the reply list. -/
def reply (r : Result) : Option (Code × List Byte) := (got r).cl.replies.getLast?.map fun x => (x.code, x.fields)

/-- The outcome code alone. -/
def code (r : Result) : Option Code := (reply r).map fun x => x.1

/-- A logged-in member entry. -/
def member (x : StationId) (weight : Nat) (credit : Int) : Member :=
  { station := x, weight := weight, loggedIn := true, offered := false, credit := credit }

/-- A group in service with a method and members. -/
def team (method : Method) (ms : List Member) (queue : List CallId) (g : Group) : Group :=
  { g with service := .inService, cfg := { g.cfg with method := method, queueLimit := 8 }, members := ms, queue := queue }

/-- A GROUP call of a group in a state, offered at a tick. -/
def groupCall (g : GroupId) (state : CallState) (priority : Priority) (offered : Tick) (ringing : List StationId)
    (gen : Byte) : Call :=
  { Call.freed gen with state := state, priority := priority, offerTick := offered, entryTick := offered, home := some g,
                        current := some g, ringing := ringing }

/-- A station that rings for a call. -/
def rings (c : CallId) (gen : Byte) (t : Station) : Station := { t with state := .ringing, call := some c, ringGen := gen }

/-! ## Ill-formed commands -/

theorem test_length_above_60_refused : (Instr.start (hd 61)).wellFormed = false := by decide
theorem test_part_without_part_byte_refused :
    (Instr.callQuery (hd 1) 0 1).wellFormed = false ∧ (Instr.groupQuery (hd 1) 0 1).wellFormed = false ∧
      (Instr.pickupGroupQuery (hd 1) 0 1).wellFormed = false ∧ (Instr.pageQuery (hd 1) 0 1).wellFormed = false := by decide
theorem test_event_of_another_row_refused :
    (Instr.offHook (hd 3) 0 1).wellFormed = false ∧ (Instr.onHook (hd 3) 0 0).wellFormed = false ∧
      (Instr.serviceOff (hd 3) 0 3).wellFormed = false ∧ (Instr.serviceOn (hd 3) 0 2).wellFormed = false ∧
      (Instr.dndOn (hd 3) 0 5).wellFormed = false ∧ (Instr.dndOff (hd 3) 0 4).wellFormed = false := by decide
theorem test_known_kind_as_unknown_refused : (Instr.unknownRequest (hd 0) 0x20).wellFormed = false := by decide
theorem test_good_sum_as_sum_error_refused : (Instr.frameSumError [0x20, 0, 7, 0xD9]).wellFormed = false := by decide
theorem test_whole_frame_as_gap_refused : (Instr.frameGap (List.replicate 64 1) 1).wellFormed = false := by decide
theorem test_short_length_as_length_error_refused : (Instr.frameLengthError 0x20 60).wellFormed = false := by decide
theorem test_incomplete_frame_as_overrun_refused : (Instr.frameOverrun [0x20, 0, 7]).wellFormed = false := by decide
theorem test_answers_out_of_range_refused :
    (Instr.identifyAnswer 24 1 0).wellFormed = false ∧ (Instr.identifyAnswer 0 3 0).wellFormed = false ∧
      (Instr.routeAnswer 24 0 0).wellFormed = false ∧ (Instr.routeAnswer 0 16 0).wellFormed = false ∧
      (Instr.pollAnswer 24 0 0).wellFormed = false ∧ (Instr.pollAnswer 0 0x8000 0).wellFormed = false ∧
      (Instr.pollAnswer 0 0 0x8005).wellFormed = false := by decide
theorem test_empty_answers_refused :
    (Instr.invalidAnswer []).wellFormed = false ∧ (Instr.answerGap []).wellFormed = false := by decide
theorem test_well_formed_accepted :
    (Instr.start (hd 0)).wellFormed = true ∧ (Instr.callQuery (hd 2) 0 1).wellFormed = true ∧
      (Instr.offHook (hd 3) 0 9).wellFormed = true ∧ (Instr.frameSumError [0x20, 0, 7, 0xD8]).wellFormed = true ∧
      (Instr.pollAnswer 23 0x7FFF 0x8004).wellFormed = true ∧ (Instr.routeAnswer 0 0xFF 15).wellFormed = true := by decide

/-! ## Frames written out from 11.1, 11.2 and 11.5 -/

theorem test_status_frame : commandOfFrame [0x20, 0, 7, 0xD9] = some (.status (hd 0)) := by decide
theorem test_station_set_frame :
    commandOfFrame [0x01, 8, 7, 0x01, 0x7F, 2, 0x2F, 0xFF, 1, 0x12, 0x34, 0xF9] =
      some (.stationSet (hd 8) 383 2 47 0xFF 1 0x1234) := by decide
theorem test_on_hook_frame : commandOfFrame [0x30, 3, 7, 0, 40, 1, 0x9D] = some (.onHook (hd 3) 40 1) := by decide
theorem test_call_offer_frame :
    commandOfFrame [0x31, 6, 7, 0, 0, 5, 2, 0xAB, 0xCD, 0x43] = some (.callOffer (hd 6) 0 5 2 0xABCD) := by decide
theorem test_zone_map_bits :
    commandOfFrame [0x0B, 15, 7, 3, 1, 0xFF, 0x80, 0, 0, 0, 0, 1, 0xFF, 0, 1, 2, 0, 9, 0x50] =
      some (.pageGroupSet (hd 15)
        { pageGroup := 3, kind := 1, target := 0xFF, zones := 0x800000000001, ceiling0 := 0xFF, ceiling1 := 0,
          ceiling2 := 1, ceiling3 := 2, label := 9 }) := by decide
theorem test_bad_sum_frame : commandOfFrame [0x20, 0, 7, 0xD8] = some (.frameSumError [0x20, 0, 7, 0xD8]) := by decide
theorem test_incomplete_frame : commandOfFrame [0x20, 0, 7] = none := by decide
theorem test_poll_answer_frame :
    commandOfAnswer 3 [5, 3, 0x03, 0x2C, 0x80, 0x03, 0x46] = .pollAnswer 5 812 0x8003 := by decide
theorem test_identify_answer_frame : commandOfAnswer 1 [5, 1, 2, 9, 0xEF] = .identifyAnswer 5 2 9 := by decide
theorem test_started_report_bytes :
    (OutFrame.report (.started .pin .invalid)).bytes = [0x8A, 2, 0, 1, 1, 0x72] := by decide
theorem test_route_command_bytes : (Line.exchange 5 (.route { a := some 2, b := none }) false).bytes =
    [5, 2, 2, 0xFF, 0xF8] := by decide

/-! ## Chapter 1: one station, three claims -/

/-- The waiting work of the example, with group 4 ringing the given stations. -/
def threeClaims (t : Tick) (ringing : List StationId) : State :=
  ((((runAt t).modGroup 4 (team .ringAll [member 17 1 0, member 20 1 0, member 21 1 0] [12])).modGroup 9
    (team .linear [member 17 1 0] [40])).modCall 33 fun _ => groupCall 4 .ringing 1 1800 ringing 1).modCall 12
    (fun _ => groupCall 4 .queued 2 1500 [] 1) |>.modCall 40 fun _ => groupCall 9 .queued 1 1000 [] 1

/-- Station 17 in WRAPUP; stations 20 and 21 ring for call 33. -/
def beforeWrapupEnds : State :=
  (((threeClaims 2000 [20, 21]).modStation 17 fun t =>
    { t with state := .wrapup, wrapupDl := some 2000, memberships := [9, 4], ringGen := 41 }).modStation 20 (rings 33 5)).modStation
    21 (rings 33 6)

theorem test_arbiter_joins_the_ring_all_call :
    let t := got (exec (.wrapupExpiry 17) beforeWrapupEnds)
    ((t.station 17).state, (t.station 17).call, (t.station 17).ringGen, (t.station 17).idleSince) =
      (.ringing, some 33, 42, 2000) ∧ (t.call 33).ringing = [17, 20, 21] ∧ (t.call 12).state = .queued := by
  decide +kernel

/-- Stations 17, 20 and 21 ring for call 33; station 21 is a member of group 4 only. -/
def beforeAnswer : State :=
  (((threeClaims 2050 [17, 20, 21]).modStation 17 fun t =>
    { rings 33 42 t with memberships := [9, 4], idleSince := 2000 }).modStation 20 fun t =>
    { rings 33 5 t with memberships := [4] }).modStation 21 fun t => { rings 33 6 t with memberships := [4] }

theorem test_answer_hands_the_others_on :
    let t := got (exec (.offHook (hd 3) 20 0) beforeAnswer)
    (t.station 20).state = .talking ∧ (t.station 17).call = some 12 ∧ (t.station 17).ringGen = 43 ∧
      (t.station 17).idleSince = 2000 ∧ (t.station 21).call = some 12 ∧ (t.call 12).ringing = [17, 21] ∧
      (t.group 4).queue = [] ∧ (t.call 40).state = .queued := by
  decide +kernel

theorem test_answer_directives_in_order :
    (got (exec (.offHook (hd 3) 20 0) beforeAnswer)).cl.reports =
      [.stopRing 17 33 1 0, .stopRing 21 33 1 0, .connect 33 1 20 0 0, .queueState 4 .empty 0,
       .ring 17 0 12 1 43 .group 0, .ring 21 0 12 1 7 .group 0] := by
  decide +kernel

/-! ## Chapter 2: WEIGHTED selection over four calls -/

/-- Group 5 of the example with the credits of its first three members; the stations listed are TALKING. -/
def weightedTeam (a b c : Int) (talking : List StationId) : State :=
  talking.foldl (fun s x => s.modStation x fun t => { t with state := .talking, call := some 100 })
    (run.modGroup 5 fun g =>
      { team .weighted [member 101 3 a, member 102 2 b, member 103 1 c, { member 104 2 0 with loggedIn := false }] [] g with
        cfg := { g.cfg with method := .weighted, noAnswer := 1500 } })

/-- The credits of group 5 and the stations that ring for a call. -/
def credits (t : State) (c : CallId) : List Int × List StationId :=
  ((t.group 5).members.map fun m => m.credit, (t.call c).ringing)

theorem test_weighted_first_call :
    credits (got (exec (.callOffer (hd 6) 0 5 1 0) (weightedTeam 0 0 0 []))) 0 = ([-3, 2, 1, 0], [101]) := by
  decide +kernel
theorem test_weighted_second_call :
    credits (got (exec (.callOffer (hd 6) 0 5 1 0) (weightedTeam (-3) 2 1 [101]))) 0 = ([-3, 1, 2, 0], [102]) := by
  decide +kernel
theorem test_weighted_third_call :
    credits (got (exec (.callOffer (hd 6) 0 5 1 0) (weightedTeam (-3) 1 2 [102]))) 0 = ([0, 1, -1, 0], [103]) := by
  decide +kernel
theorem test_weighted_no_answer :
    let s := ((weightedTeam 0 1 (-1) [102]).modStation 103 (rings 22 9)).modCall 22 fun _ =>
      { groupCall 5 .ringing 1 0 [103] 1 with ringDl := some 0 }
    let t := got (exec (.noAnswerExpiry 22) s)
    credits t 22 = ([0, 1, -1, 0], [101]) ∧ (t.call 22).tried = [103] ∧ (t.call 22).round = 0 ∧
      (t.call 22).ringDl = some 1500 := by
  decide +kernel
theorem test_weighted_fourth_call :
    credits (got (exec (.callOffer (hd 6) 0 5 1 0) (weightedTeam 0 1 (-1) [101]))) 0 = ([0, 0, 0, 0], [102]) := by
  decide +kernel

/-! ## Chapter 3: coalescing three arrivals -/

/-- Group 12 of the example at a tick, with its announcement state and queue; zone 2 is the speaker zone of page group 20. -/
def announcing (t : Tick) (ann : AnnLive) (queue : List CallId) : State :=
  let s := (runAt t).modGroup 12 fun g =>
    { team .linear [] queue g with
      annP := { pageGroup := some 20, priority := 1, channel := 5, tone := 2, length := 1500, arrivalCount := 3,
                duringCount := 2, delay := 3000 }
      ann := ann
      beaconP := { zone := some 31, channel := 5, debounce := 500 }
      beacon := { state := .on, dl := none } }
  let s := queue.foldl (fun s c => s.modCall c fun _ => groupCall 12 .queued 1 1000 [] 1) s
  let s := s.modPageGroup 20 fun p => { p with cfg := { p.cfg with kind := .direct [2] } }
  let s := s.modChannel 5 fun c => { c with running := true, output := true, claims := { c.claims with group := 1 } }
  s.modZone 2 fun z => { z with kind := .speaker }

theorem test_third_arrival_triggers :
    let t := got (exec (.callOffer (hd 6) 0 12 1 0)
      (announcing 1300 { state := .armed, counter := 2, delayDl := some 4000, live := none } [50, 51]))
    (t.group 12).ann = { state := .live, counter := 0, delayDl := none, live := some (0, 1) } ∧
      (t.page 0).endDl = some 2800 ∧ (t.page 0).state = .playing ∧ (t.zone 2).playing = some 0 ∧
      (t.channel 5).claims = { prelude := 0, tone := 1, emergency := 0, group := 1 } ∧
      (t.group 12).queue.length = 3 := by
  decide +kernel

/-- The live announcement page of group 12. -/
def announcementPage (s : State) (endDl : Tick) : State :=
  ((s.modPage 6 fun _ =>
    { Page.ended 3 with state := .playing, kind := .tone, origin := .groupAnnouncement 12, audible := [2], bus := some 0,
                        source := .tone 5 2, startTick := some 1300, endDl := some endDl }).modBus 0 fun _ =>
    { page := some 6, source := .tone 5 2 }).modZone 2 fun z => { z with playing := some 6, route := some 0 }

theorem test_live_announcement_is_extended :
    let t := got (exec (.callOffer (hd 6) 0 12 1 0) (announcementPage
      (announcing 2000 { state := .live, counter := 1, delayDl := none, live := some (6, 3) } [51, 52, 53]) 2800))
    (t.page 6).endDl = some 3500 ∧ (t.group 12).ann.counter = 0 ∧ (t.group 12).ann.state = .live := by
  decide +kernel

theorem test_ended_announcement_rearms :
    let t := got (exec (.endDeadlineExpiry 6) (announcementPage
      (announcing 3500 { state := .live, counter := 0, delayDl := none, live := some (6, 3) } [51, 52, 53, 54]) 3500))
    (t.group 12).ann = { state := .armed, counter := 0, delayDl := some 6500, live := none } ∧
      (t.page 6).endCause = some .expired ∧ (t.zone 2).playing = none ∧ (t.bus 0).page = none := by
  decide +kernel

theorem test_last_call_leaves_the_queue :
    let t := got (exec (.callGone (hd 2) 54 1)
      (announcing 4100 { state := .armed, counter := 0, delayDl := some 6500, live := none } [54]))
    (t.group 12).ann.state = .idle ∧ (t.group 12).ann.delayDl = none ∧
      (t.group 12).beacon = { state := .debounce, dl := some 4600 } ∧ t.cl.reports = [.queueState 12 .empty 0] := by
  decide +kernel

/-! ## Chapter 4: a pickup racing an answer -/

/-- The example at tick 5300. -/
def pickupRace : State :=
  let s := ((((runAt 5300).modStation 40 fun t => { rings 88 26 t with cfg := { t.cfg with pickup := some 3 } }).modStation 41
    fun t => { t with cfg := { t.cfg with pickup := some 3, cls := 1 } }).modStation 42 fun t =>
      { rings 91 8 t with cfg := { t.cfg with pickup := some 3 } }).modStation 44 fun t =>
      { t with cfg := { t.cfg with pickup := some 5, cls := 2 } }
  let s := s.modClass 2 fun k => { k with directed := true }
  let s := s.modGroup 7 fun g => { team .linear [member 40 1 0] [] g with cfg := { g.cfg with wrapup := 300 } }
  let s := (s.modCall 88 fun _ => groupCall 7 .ringing 1 5000 [40] 14).modCall 91 fun _ =>
    { groupCall 0 .ringing 1 5200 [42] 3 with kind := .direct, home := none, current := none }
  s.modPickup 3 fun p => { p with ring := [{ call := 88, start := 5000 }, { call := 91, start := 5200 }] }

theorem test_pickup_taken_first :
    let t := got (exec (.groupPickup (hd 4) 41 88 14) pickupRace)
    ((t.station 40).state, (t.station 41).state, (t.call 88).state, (t.call 88).answering) =
      (.idle, .talking, .connected, some 41) ∧ (t.pickup 3).ring = [{ call := 91, start := 5200 }] ∧
      t.cl.reports = [.stopRing 40 88 14 0, .connect 88 14 41 0 0] ∧
      reply (exec (.groupPickup (hd 4) 41 88 14) pickupRace) = some (.ok, [88, 14, 3, 2]) := by
  decide +kernel

theorem test_off_hook_taken_first :
    let r := exec (.offHook (hd 3) 40 0) pickupRace
    reply r = some (.ok, [3, 88, 88, 14]) ∧ code (exec (.groupPickup (hd 4) 41 88 14) (got r)) = some .tooLate ∧
      code (exec (.directedPickup (hd 5) 44 40 26) (got r)) = some .tooLate := by
  decide +kernel

/-! ## Chapter 5: one code for three requesters -/

/-- The tables of the example; zones 4 to 7 and 20 are speakers, stations 61 and 62 are BUSY in classes 1 and 2. -/
def dialling : State :=
  let s := (run.modDirectory 2 fun _ => { base := 40, length := 8 }).modDirectory 5 fun _ => { base := 44, length := 4 }
  let s := s.modEntry 43 fun _ =>
    { pageGroup := some 12, priority := 2, sourceKind := .voice, preludeChannel := 3, preludeTone := 1, preludeTicks := 150,
      maxDuration := 6000, waitTicks := 500 }
  let s := s.modPageGroup 12 fun p =>
    { p with cfg := { kind := .indirect 30, ceilings := #v[none, some 1, some 2, some 3], label := 0 } }
  let s := s.modPageGroup 30 fun p => { p with cfg := { p.cfg with kind := .indirect 31 } }
  let s := s.modPageGroup 31 fun p => { p with cfg := { p.cfg with kind := .direct [4, 5, 6, 7, 20] } }
  let s := [4, 5, 6, 7, 20].foldl (fun s z => s.modZone z fun d => { d with kind := .speaker }) s
  (s.modStation 61 fun t => { t with state := .busy, cfg := { t.cfg with cls := 1 } }).modStation 62 fun t =>
    { t with state := .busy, cfg := { t.cfg with cls := 2 } }

theorem test_class_1_denied : code (exec (.page (hd 5) 61 2 3 0) dialling) = some .denied := by decide +kernel
theorem test_past_the_directory : code (exec (.page (hd 5) 0xFFFE 2 8 0) dialling) = some .noSuchCode := by decide +kernel
theorem test_class_2_granted :
    let t := got (exec (.page (hd 5) 62 2 3 0) dialling)
    (t.page 0).audible = [4, 5, 6, 7, 20] ∧ (t.page 0).state = .prelude ∧ (t.page 0).chain = [12, 30, 31] ∧
      (t.station 62).voicePage = some 0 ∧ liveOnEntry t 43 = 1 ∧ liveOnGroup t 30 = 1 ∧
      (t.pageGroup 12).referenced = true ∧ (t.pageGroup 30).referenced = true ∧ (t.pageGroup 31).referenced = true := by
  decide +kernel
theorem test_fifth_hop_refused :
    let s := (List.range 5).foldl (fun s i => s.modPageGroup ⟨(50 + i) % 64, Nat.mod_lt _ (by decide)⟩ fun p =>
      { p with cfg := { p.cfg with kind := .indirect ⟨(51 + i) % 64, Nat.mod_lt _ (by decide)⟩ } })
      (dialling.modEntry 43 fun e => { e with pageGroup := some 50 })
    code (exec (.page (hd 5) 0xFFFE 2 3 0) s) = some .chainTooLong := by
  decide +kernel

/-! ## Chapter 6: an emergency page over two normal pages -/

/-- A started page on a bus. -/
def started (gen : Byte) (kind : PageKind) (origin : Origin) (priority : Priority) (source : PageSource) (b : BusId)
    (start : Tick) (audible suspended : List ZoneId) : Page :=
  { Page.ended gen with
    state := .playing, kind := kind, origin := origin, priority := priority, source := source, bus := some b,
    startTick := some start, requested := audible ++ suspended, audible := audible, suspended := suspended,
    endDl := some (start + 30000) }

/-- Page `p` of the example stands on its bus and plays in its audible zones. -/
def playing (p : PageId) (r : Page) (b : BusId) (source : BusSource) (s : State) : State :=
  r.audible.foldl (fun s z => s.modZone z fun d => { d with kind := .speaker, playing := some p, route := busSetting b })
    ((s.modPage p fun _ => r).modBus b fun _ => { page := some p, source := source })

/-- The example at a tick before page 8: all buses are held, and code entry 0 is the console's EMERGENCY code. -/
def normalPages (t : Tick) : State :=
  let s := playing 0 (started 5 .prompt (.station 71) 0 (.prompt 1) 0 900 [10] [11]) 0 .prompt (runAt t)
  let s := playing 1 (started 6 .voice (.station 60) 1 (.slot 4) 1 1000 [11, 12, 13] []) 1 (.slot 4) s
  let s := s.modZone 11 fun d => { d with stack := [0] }
  let s := ([2, 3, 4, 5, 6, 7] : List (Fin 8)).foldl (fun s b =>
    playing ⟨b.val, by omega⟩ (started 1 .prompt .console 2 (.prompt 3) b 1500 [⟨b.val + 28, by omega⟩] []) b .prompt s) s
  let s := (s.modPage 8 fun _ => Page.ended 26).modZone 14 fun d => { d with kind := .beacon }
  let s := s.modZone 15 fun d => { d with kind := .beacon }
  let s := [5, 6, 7].foldl (fun s m => s.modModule m fun d => { d with state := .present }) s
  let s := s.modDirectory 0 fun _ => { base := 0, length := 1 }
  let s := s.modPageGroup 0 fun p => { p with cfg := { p.cfg with kind := .direct [10, 11, 12, 13, 14, 15] } }
  s.modEntry 0 fun _ =>
    { pageGroup := some 0, priority := 3, sourceKind := .voice, preludeChannel := 15, preludeTone := 3, preludeTicks := 200,
      maxDuration := 6000, waitTicks := 1000 }

theorem test_emergency_page_cuts_and_starts :
    let r := exec (.page (hd 5) 0xFFFE 0 0 9) (normalPages 2000)
    reply r = some (.ok, [8, 27, 1, 0, 4, 0, 5]) ∧
      (got r).cl.reports =
        [.pageState 0 5 (.station 71) 0 .ended .ended none 0 (some .cut), .pageState 1 6 (.station 60) 1 .held .held (some 1) 0 none,
         .pageState 8 27 .console 3 .started .prelude (some 0) 4 none] := by
  decide +kernel
theorem test_emergency_page_takes_zones_and_strobes :
    let t := got (exec (.page (hd 5) 0xFFFE 0 0 9) (normalPages 2000))
    (t.page 8).audible = [10, 11, 12, 13] ∧ (t.page 8).beacons = [14, 15] ∧ (t.page 8).endDl = some 8000 ∧
      (t.page 8).preludeDl = some 2200 ∧ (t.page 1).suspended = [11, 12, 13] ∧
      [10, 11, 12, 13].map (fun z => (t.zone z).stack) = [[], [1], [1], [1]] ∧ (t.channel 15).claims.count = 3 ∧
      (t.zone 14).follow = some 15 ∧ (t.zone 15).route = some 15 ∧
      (t.fieldModule 7).pendingRoute = some { a := some 15, b := some 15 } := by
  decide +kernel

/-- The example while page 8 plays; with the prelude still running when its deadline is given. -/
def emergency (t : Tick) (prelude : Option Tick) : State :=
  let r : Page := { started 27 .voice .console 3 (.slot 9) 0 2000 [10, 11, 12, 13] [] with
    state := if prelude.isSome then .prelude else .playing, preludeDl := prelude, preludeChannel := 15, preludeTone := 3,
    beacons := [14, 15], endDl := some 8000 }
  let s := playing 8 r 0 (if prelude.isSome then .tone 15 3 else .slot 9) (normalPages t)
  let s := s.modPage 0 fun r => Page.ended r.gen
  let s := s.modPage 1 fun r => { r with state := .held, audible := [], suspended := [11, 12, 13] }
  let s := [11, 12, 13].foldl (fun s z => s.modZone z fun d => { d with stack := [1] }) s
  let s := [14, 15].foldl (fun s z => s.modZone z fun d => { d with follow := some 15, route := some 15 }) s
  s.modChannel 15 fun c =>
    { c with running := true, output := true,
             claims := { c.claims with emergency := 2, prelude := if prelude.isSome then 1 else 0 } }

theorem test_prelude_ends_in_the_slot :
    let t := got (exec (.preludeExpiry 8) (emergency 2200 (some 2200)))
    (t.page 8).state = .playing ∧ (t.bus 0).source = .slot 9 ∧ (t.channel 15).claims.count = 2 := by
  decide +kernel

/-- Zone 12 of module 6 faults at the poll. -/
theorem test_faulted_zone_leaves_its_pages :
    let s := emergency 2500 none
    let t := got (exec (.pollAnswer 6 0x8001 0) { s with flc := { s.flc with line := .exchange 6 .poll false } })
    (t.zone 12).service = .faulted ∧ (t.zone 12).fault = some .openLine ∧ (t.page 8).audible = [10, 11, 13] ∧
      (t.page 1).suspended = [11, 13] ∧ (t.page 1).state = .held ∧ (t.zone 12).stack = [] ∧
      t.cl.reports = [.zoneState 12 .speaker .faulted (some .openLine) 1] := by
  decide +kernel

theorem test_page_end_resumes_the_page_below :
    let s := (emergency 3400 none).modZone 12 fun d => { d with service := .faulted, playing := none, stack := [], route := none }
    let s := (s.modPage 8 fun r => { r with audible := [10, 11, 13] }).modPage 1 fun r => { r with suspended := [11, 13] }
    let t := got (exec (.pageEnd (hd 4) 8 27 0xFFFE) s)
    (t.page 1).state = .playing ∧ (t.page 1).audible = [11, 13] ∧ (t.zone 10).playing = none ∧
      (t.zone 13).playing = some 1 ∧ (t.bus 0).page = none ∧ (t.channel 15).running = false ∧ (t.zone 14).follow = none ∧
      t.cl.reports = [.pageState 1 6 (.station 60) 1 .resumed .playing (some 1) 1 none,
        .pageState 8 27 .console 3 .ended .ended none 0 (some .released)] := by
  decide +kernel

theorem test_on_hook_ends_the_held_page :
    let s := (emergency 3000 none).modStation 60 fun t => { t with state := .busy, voicePage := some 1 }
    let t := got (exec (.onHook (hd 3) 60 1) s)
    (t.station 60).state = .idle ∧ (t.station 60).voicePage = none ∧ (t.page 1).endCause = some .released ∧
      (t.zone 11).stack = [] ∧ (t.bus 1).page = none := by
  decide +kernel

/-! ## Chapter 7: a strobe between a queue and an evacuation; a slot switch -/

/-- Zone 31 with the beacons of groups 12 and 20 and those of the two pages that are given as live. -/
def strobe (page3 page9 : Bool) : State :=
  let s := ((runAt 7500).modZone 31 fun d => { d with kind := .beacon }).modGroup 12 fun g =>
    { g with beaconP := { zone := some 31, channel := 5, debounce := 0 }, beacon := { state := .on, dl := none } }
  let s := s.modGroup 20 fun g =>
    { g with beaconP := { zone := some 31, channel := 8, debounce := 0 }, beacon := { state := .on, dl := none } }
  let put (s : State) (live : Bool) (p : PageId) (k : ChannelId) (b : BusId) (t : Tick) : State :=
    if live then s.modPage p fun _ =>
      { started 1 .voice .console 3 (.slot 0) b t [] [] with preludeChannel := k, beacons := [31] } else s
  put (put s page3 3 15 0 7000) page9 9 14 1 7050

theorem test_strobe_follows_its_claims :
    followChannel (strobe false false) 31 = some 5 ∧ followChannel (strobe true false) 31 = some 15 ∧
      followChannel (strobe true true) 31 = some 15 ∧ followChannel (strobe false true) 31 = some 14 := by
  decide +kernel

theorem test_group_beacon_off_moves_the_strobe :
    let s := (strobe false false).modGroup 12 fun g => { g with beacon := { state := .debounce, dl := some 7500 } }
    (((got (exec (.debounceExpiry 12) s)).zone 31).follow, ((got (exec (.debounceExpiry 12) s)).group 12).beacon.state) =
      (some 8, .off) := by
  decide +kernel

/-- Channel 5 of the example, running with one group claim. -/
def cadence (t : Tick) (slotA slotB : Cadence) (active : Slot) (pending : Bool) (phase : Nat) (output : Bool) : State :=
  (runAt t).modChannel 5 fun _ =>
    { slotA := slotA, slotB := slotB, active := active, pending := pending, running := true, phase := phase,
      stepTick := t - 1, output := output, claims := { Claims.none with group := 1 } }

theorem test_inactive_slot_waits :
    let t := got (exec (.cadenceSet (hd 6) 5 1 40 10) (cadence 1130 ⟨100, 50⟩ ⟨60, 60⟩ .a false 30 true))
    (t.channel 5).pending = true ∧ (t.channel 5).active = .a ∧ (t.channel 5).phase = 30 ∧ (t.channel 5).output = true ∧
      t.flc.alert = none := by
  decide +kernel
theorem test_pending_slot_switches_at_the_boundary :
    let t := got (exec (.cadenceAdvance 5) (cadence 1200 ⟨100, 50⟩ ⟨40, 10⟩ .a true 99 false))
    (t.channel 5).pending = false ∧ (t.channel 5).active = .b ∧ (t.channel 5).phase = 0 ∧ (t.channel 5).output = true ∧
      t.flc.alert = some 32 := by
  decide +kernel
theorem test_active_slot_ends_the_period :
    let t := got (exec (.cadenceSet (hd 6) 5 1 10 10) (cadence 1272 ⟨100, 50⟩ ⟨20, 5⟩ .b false 12 false))
    (t.channel 5).phase = 0 ∧ (t.channel 5).stepTick = 1272 ∧ (t.channel 5).output = true ∧
      (got (exec (.cadenceAdvance 5) t)).channel 5 = t.channel 5 := by
  decide +kernel

/-! ## Chapter 8: a module drops out and is restored -/

/-- Module 5 of the example: page 9 plays in zone 11 alone, zone 10 is IDLE. -/
def moduleFive (state : ModuleState) (line : Line) : State :=
  let s := playing 9 (started 2 .voice .console 2 (.slot 3) 5 100 [11] []) 5 (.slot 3) (runAt 300)
  let s := (s.modZone 10 fun d => { d with kind := .speaker, faultGen := 3 }).modModule 5 fun d =>
    { d with configured := .amp, sensed := .amp, revision := some 1, state := state,
             pendingRoute := some { a := none, b := some 5 }, appliedRoute := some { a := some 2, b := none } }
  { s with flc := { s.flc with line := line } }

theorem test_second_failure_drops_the_module :
    let t := got (exec .answerTimeout (moduleFive .present (.exchange 5 (.route { a := some 2, b := some 5 }) true)))
    (t.fieldModule 5).state = .missing ∧ (t.fieldModule 5).pendingRoute = none ∧
      ((t.zone 10).fault, (t.zone 10).faultGen) = (some .noReply, 4) ∧ ((t.zone 11).fault, (t.zone 11).faultGen) = (some .noReply, 1) ∧
      t.cl.reports = [.moduleState 5 .missing .amp .amp (some 1), .zoneState 10 .speaker .faulted (some .noReply) 4,
        .zoneState 11 .speaker .faulted (some .noReply) 1,
        .pageState 9 2 .console 2 .ended .ended none 0 (some .noZones)] := by
  decide +kernel

/-- Module 5 with both zones faulted as the example leaves them. -/
def faultedFive (state : ModuleState) (line : Line) (kindB : FaultKind) (genB : Byte) : State :=
  let s := (run.modZone 10 fun d => { d with kind := .speaker, service := .faulted, fault := some .noReply, faultGen := 4 }).modZone
    11 fun d => { d with kind := .speaker, service := .faulted, fault := some kindB, faultGen := genB }
  let s := s.modModule 5 fun d => { d with configured := .amp, sensed := .amp, revision := some 1, state := state }
  { s with flc := { s.flc with line := line } }

theorem test_poll_brings_the_module_back :
    let t := got (exec (.pollAnswer 5 812 0x8003) (faultedFive .missing (.exchange 5 .poll false) .noReply 1))
    (t.fieldModule 5).state = .present ∧ (t.zone 10).load = some 812 ∧ (t.zone 10).fault = some .noReply ∧
      ((t.zone 11).fault, (t.zone 11).faultGen) = (some .overtemp, 2) ∧
      t.cl.reports = [.moduleState 5 .present .amp .amp (some 1), .zoneState 11 .speaker .faulted (some .overtemp) 2] ∧
      t.flc.line = .exchange 5 (.route { a := none, b := none }) false := by
  decide +kernel
theorem test_restore_takes_the_generation :
    code (exec (.zoneRestore (hd 2) 10 4) (faultedFive .missing .holdoff .overtemp 2)) = some .wrongState ∧
      reply (exec (.zoneRestore (hd 2) 10 4) (faultedFive .present .holdoff .overtemp 2)) = some (.ok, [0, 4]) ∧
      code (exec (.zoneRestore (hd 2) 11 1) (faultedFive .present .holdoff .overtemp 2)) = some .stale := by
  decide +kernel

/-! ## Chapters 9 and 10: replies held behind a save, a save lost to a restart -/

/-- A save in progress with its reply WAITING; the transmitter is IDLE. -/
def savingState (waiting : List Reply) : State :=
  { runAt 9010 with
    cs := { state := .saving (imageOf State.reset) 9000, count := 41, last := .none, image := Image.empty,
            sum := badSum Image.empty }
    cl := { run.cl with tx := .idle, replies := { kind := 0x22, tag := 20, waiting := true, code := .ok, lost := false,
                                                  fields := [] } :: waiting } }

theorem test_reply_waits_behind_a_save :
    let t := got (exec (.classSet (hd 8) { cls := 0, capabilities := 0, recallTicks := 0, coverageTicks := 0, directory := 0xFF,
                                           entry := 0xFF }) (savingState []))
    t.cl.tx = .idle ∧ (t.cl.replies.map fun r => (r.tag, r.waiting, r.code)) = [(20, true, .ok), (7, false, .storeBusy)] := by
  decide +kernel
theorem test_save_completion_releases_the_replies :
    let t := got (exec (.saveCompletion true) (savingState []))
    t.cs.count = 42 ∧ t.cs.last = .ok ∧
      t.cl.tx = .sending (.reply { kind := 0x22, tag := 20, waiting := false, code := .ok, lost := false, fields := [0, 42] }) := by
  decide +kernel
theorem test_restart_abandons_the_save :
    let t := got (exec (.restart (hd 0)) (savingState []))
    t.cs.count = 41 ∧ t.cs.last = .abandoned ∧ t.cs.state = .invalid ∧ t.cl.restart = .decoded ∧
      t.cl.tx = .sending (.reply { kind := 0x22, tag := 20, waiting := false, code := .storeFailed, lost := false, fields := [] }) ∧
      t.cl.replies.map (fun r => (r.kind, r.code)) = [(0x24, .ok)] := by
  decide +kernel


/-! ## What the statements assume can be met -/

/-- A reply that is READY. -/
def ready : Reply := { kind := 0x20, tag := 1, waiting := false, code := .ok, lost := false, fields := [] }

/-- The state with the Control Link changed. -/
def withCl (s : State) (f : Cl → Cl) : State := { s with cl := f s.cl }

/-- The reply list is full. -/
def fullReplies : State := withCl run fun c => { c with replies := List.replicate 8 ready }

/-- The report queue is full. -/
def fullReports : State := withCl run fun c => { c with reports := List.replicate 64 (.started .power .valid) }

/-- The field line does the given thing. -/
def onLine (s : State) (l : Line) : State := { s with flc := { s.flc with line := l } }

theorem witness_StepRunsTheFrontCommand : State.reset.pending = [] := rfl

theorem witness_RequestFramesDecodeToTheirRequests :
    (Instr.callQuery (hd 2) 191 1).wellFormed = true ∧ (Instr.callQuery (hd 2) 191 1).legalLength = true ∧
      frameOfRequest (.callQuery (hd 2) 191 1) = some [0x11, 2, 7, 0xBF, 1, 0x26] ∧
      (Instr.offHook (hd 3) 383 255).wellFormed = true ∧ (Instr.offHook (hd 3) 383 255).legalLength = true ∧
      frameOfRequest (.offHook (hd 3) 383 255) = some [0x30, 3, 7, 1, 0x7F, 0xFF, 0x47] := by decide

/-- The framer holds the byte that ended a gap. -/
def holding (b : Byte) : State := withCl run fun c => { c with framer := .collecting [b] }

theorem test_frame_of_the_held_kind_is_taken :
    code (exec (.status (hd 0)) (holding 0x20)) = some .ok ∧
      (got (exec (.status (hd 0)) (holding 0x20))).cl.framer = .hunt := by decide +kernel
theorem test_frame_of_another_kind_is_no_event :
    exec (.status (hd 0)) (holding 0x21) = .next (holding 0x21) ∧
      exec (.frameGap [0, 7, 0xD9] 0x21) (holding 0x20) = .next (holding 0x20) := ⟨rfl, rfl⟩

theorem witness_DamagedAndDiscardedFrames :
    intake fullReplies = .overrun ∧ (Instr.status (hd 0)).request? = some (0x20, hd 0) ∧
      framerContinues fullReplies [0x20, 0, 7] = true ∧ framerContinues run [0x20, 61] = true ∧
      (holding 0x20).cl.restart = .none ∧ (holding 0x20).cl.framer = .collecting [0x20] ∧
      ([0x20] : List Byte).take 3 = ([0x20, 0, 7] : List Byte).take 1 ∧
      ([0x20] : List Byte).take 3 ≠ ([0x21, 0, 7] : List Byte).take 1 ∧
      ([0x20] : List Byte).take 4 ≠ ([0x21, 0, 7, 0xD8] : List Byte).take 1 ∧
      ([0x20] : List Byte).take 2 ≠ ([0x21, 61] : List Byte).take 1 ∧
      frameInProgress ([0x20] ++ [0, 7, 0xD9]) = false ∧ frameInProgress ([0x20] ++ [61]) = false ∧
      frameInProgress ([0x20] ++ [60, 7]) = true ∧
      (withCl run fun c => { c with restart := .decoded }).cl.restart ≠ .none ∧
      (withCl run fun c => { c with framer := .discarding }).cl.framer = .discarding ∧
      run.cl.restart = .none ∧ run.cl.framer ≠ .discarding ∧ run.cl.replies.length < 8 ∧ run.cl.framer = .hunt ∧
      (withCl run fun c => { c with framer := .collecting [0x20] }).cl.framer = .collecting [0x20] := by decide +kernel

theorem witness_RepliesAndReportsAreQueued :
    run.cl.reports.length < 64 ∧ 64 ≤ fullReports.cl.reports.length ∧
      run.cl.tx = .sending (.report (.started .power .invalid)) ∧
      (withCl run fun c => { c with tx := .idle, restart := .replySent }).cl.restart = .replySent ∧
      (let s := withCl run fun c => { c with tx := .idle }
       s.cl.tx = .idle ∧ s.cl.restart ≠ .replySent ∧ s.cl.replies = []) ∧
      (let s := withCl run fun c => { c with tx := .idle, replies := [ready] }
       s.cl.replies = [ready] ∧ ready.waiting = false) ∧
      (let s := withCl run fun c => { c with
         tx := .idle, replies := [{ ready with waiting := true }], reports := [.started .pin .valid] }
       s.cl.replies = [{ ready with waiting := true }] ∧ s.cl.reports = [.started .pin .valid]) ∧
      (let s := withCl run fun c => { c with tx := .idle, replies := [{ ready with waiting := true }], reports := [] }
       s.cl.replies = [{ ready with waiting := true }] ∧ s.cl.reports = []) := by decide +kernel

/-- The transmitter sends a report; the lists hold the given replies and reports. -/
def sendingState (replies : List Reply) (reports : List Report) : State :=
  withCl run fun c => { c with tx := .sending (.report (.started .power .valid)), replies := replies, reports := reports }

theorem witness_FrameEndChoosesTheNextFrame :
    (sendingState [ready] []).cl.tx = .sending (.report (.started .power .valid)) ∧
      ¬ ((sendingState [ready] []).cl.restart = .decoded ∧
        (OutFrame.report (.started .power .valid)).isRestartReply = true) ∧
      (sendingState [ready] []).cl.replies = [ready] ∧ ready.waiting = false ∧
      (sendingState [{ ready with waiting := true }] [.started .pin .valid]).cl.reports = [.started .pin .valid] ∧
      (∀ r, (sendingState [{ ready with waiting := true }] [.started .pin .valid]).cl.replies.head? = some r →
        r.waiting = true) ∧
      (sendingState [] []).cl.reports = [] ∧ (∀ r, (sendingState [] []).cl.replies.head? = some r → r.waiting = true) := by
  refine ⟨by decide +kernel, by decide +kernel, by decide +kernel, rfl, by decide +kernel, ?_, by decide +kernel, ?_⟩
  · intro r h; cases h; rfl
  · intro r h; cases h

theorem witness_FrameEndChoosesTheNextFrame_restart :
    let r : Reply := { ready with kind := 0x24 }
    let s := withCl run fun c => { c with tx := .sending (.reply r), restart := .decoded }
    s.cl.tx = .sending (.reply r) ∧ s.cl.restart = .decoded ∧ r.kind = 0x24 ∧ r.code = .ok := by decide +kernel

theorem witness_StatusShowsAndClearsTheLostFlag : received run (hd 0) 0 := by decide +kernel

theorem witness_StartMovesSetupToRun :
    received State.reset (hd 0) 0 ∧ State.reset.cl.mode = .setup ∧ received run (hd 0) 0 ∧ run.cl.mode = .run := by
  decide +kernel

theorem witness_RestartStopsTheFramerAndAnySave :
    received run (hd 0) 0 ∧ run.isSaving = false ∧ received (savingState []) (hd 0) 0 ∧ (savingState []).isSaving = true ∧
      ((savingState []).cl.replies.map fun r => r.waiting) = [true] := by decide +kernel

theorem witness_WarmRestartKeepsTablesAndGenerations :
    (withCl run fun c => { c with restart := .replySent }).cl.restart = .replySent := rfl

theorem witness_ColdResetsLoadTheStore :
    State.reset.cs.good = false ∧
      { State.reset with cs := { State.reset.cs with sum := imageSum Image.empty } }.cs.good = true ∧
      { State.reset with cs := { State.reset.cs with sum := imageSum Image.empty } }.cs.image = Image.empty :=
  ⟨reset_store_bad, Cs.good_imageSum rfl, rfl⟩

theorem witness_ColdResetClearsPaging : Instr.resetPin = .powerOn ∨ Instr.resetPin = .resetPin := Or.inr rfl

/-- A state whose next command is the counter's advance. -/
def ticking (s : State) : State := { s with pending := [.tickCounterAdvance] }

theorem witness_LinkStaysWithinItsLimits :
    LinkWithinCapacity (ticking (savingState [])) ∧ TransmitterServesQueues (ticking (savingState [])) ∧
      (ticking (savingState [])).cl.tx = .idle ∧ ∃ t, step (ticking (savingState [])) = .next t := by
  refine ⟨by unfold LinkWithinCapacity; decide +kernel, fun _ _ => ⟨rfl, fun r h => ?_⟩, rfl, _, rfl⟩
  cases h; rfl

theorem witness_ZoneServiceAgreesWithItsFault :
    ZoneServiceFollowsFault (ticking (faultedFive .present .holdoff .overtemp 2)) ∧
      ∃ t, step (ticking (faultedFive .present .holdoff .overtemp 2)) = .next t :=
  ⟨by unfold ZoneServiceFollowsFault; decide +kernel, _, rfl⟩

theorem witness_FieldLineIsNeverLeftFree :
    LineIsUsed (ticking run) ∧ ∃ t, step (ticking run) = .next t := ⟨by unfold LineIsUsed; decide +kernel, _, rfl⟩

theorem witness_ChannelsRunWhileClaimed :
    ChannelsFollowClaims (ticking (cadence 1200 ⟨100, 50⟩ ⟨40, 10⟩ .a true 99 false)) ∧
      ∃ t, step (ticking (cadence 1200 ⟨100, 50⟩ ⟨40, 10⟩ .a true 99 false)) = .next t :=
  ⟨by unfold ChannelsFollowClaims; decide +kernel, _, rfl⟩

theorem witness_OtherCommandsKeepTheTables :
    mayConfigure .tickCounterAdvance = false ∧ ∃ t, exec .tickCounterAdvance run = .next t := ⟨rfl, _, rfl⟩

theorem witness_RefusedRequestsChangeNothing :
    (Instr.start (hd 3)).request? = some (0x23, hd 3) ∧ requestLengths 0x23 = some [0] ∧ (hd 3).length.toNat ∉ [0] ∧
      received run (hd 3) 3 ∧ requestLengths 0x1E = none ∧
      (Instr.callGone (hd 2) 0 0).request? = some (0x32, hd 2) ∧ (Instr.callGone (hd 2) 0 0).legalLength = true ∧
      isOperational (.callGone (hd 2) 0 0) = true ∧ State.reset.cl.mode = .setup ∧ received State.reset (hd 2) 2 ∧
      stationEvent? (.callGone (hd 2) 0 0) = none ∧
      (Instr.moduleSet (hd 2) 0 0).request? = some (0x0D, hd 2) ∧ (Instr.moduleSet (hd 2) 0 0).legalLength = true ∧
      isConfiguration (.moduleSet (hd 2) 0 0) = true ∧ (savingState []).isSaving = true ∧
      received (savingState []) (hd 2) 2 := by decide +kernel

theorem witness_RefusedRequestsChangeNothing_ranges :
    (Instr.onHook (hd 3) 383 1).request? = some (0x30, hd 3) ∧ (Instr.onHook (hd 3) 383 1).legalLength = true ∧
      isOperational (.onHook (hd 3) 383 1) = true ∧ stationEvent? (.onHook (hd 3) 383 5) = some (383, 5) ∧
      (383 : Half).toNat ≤ 383 ∧ (5 : Byte).toNat ≤ 5 ∧ 383 < (384 : Half).toNat ∧ 5 < (6 : Byte).toNat ∧
      configurationInRange (savingState []) (.moduleSet (hd 2) 23 2) = true ∧
      configurationInRange (savingState []) (.moduleSet (hd 2) 24 2) = false ∧
      configurationInRange (savingState []) (.moduleSet (hd 2) 23 3) = false ∧
      configurationInRange (savingState []) (.directorySet (hd 3) 7 127 1) = true ∧
      configurationInRange (savingState []) (.directorySet (hd 3) 7 127 2) = false ∧
      configurationInRange (savingState []) (.memberRemove (hd 3) 5 383) = false := by decide +kernel

theorem witness_StoreSavesAreTakenAndSettled :
    received run (hd 0) 0 ∧ run.isSaving = false ∧ received (savingState []) (hd 0) 0 ∧ (savingState []).isSaving = true ∧
      (savingState []).cs.state = .saving (imageOf State.reset) 9000 ∧
      1 ≤ ((savingState []).sct.tick - 9000).toNat ∧ ((savingState []).sct.tick - 9000).toNat ≤ 40 :=
  ⟨by decide +kernel, rfl, by decide +kernel, rfl, rfl, by decide +kernel, by decide +kernel⟩

theorem witness_StoreQueryGivesTheStore :
    received (savingState []) (hd 0) 0 ∧ (savingState []).cs.state = .saving (imageOf State.reset) 9000 ∧
      received run (hd 0) 0 ∧ run.cs.state = .invalid ∧
      { run with cs := { run.cs with state := .valid } }.cs.state = .valid :=
  ⟨by decide +kernel, rfl, by decide +kernel, rfl, rfl⟩

theorem witness_TheCounterAndTheCadencesAdvance :
    (run.channel 0).running = false ∧
      (let s := cadence 1200 ⟨100, 50⟩ ⟨40, 10⟩ .a true 99 false
       (s.channel 5).running = true ∧ (s.channel 5).stepTick ≠ s.sct.tick ∧
         (s.channel 5).cadence.period ≤ (s.channel 5).phase + 1 ∧ (s.channel 5).pending = true) ∧
      (cadence 1200 ⟨100, 50⟩ ⟨40, 10⟩ .a false 99 false).channel 5 ≠ (cadence 1200 ⟨100, 50⟩ ⟨40, 10⟩ .a true 99 false).channel 5 ∧
      (let s := cadence 1200 ⟨100, 50⟩ ⟨40, 10⟩ .a false 98 false
       (s.channel 5).phase + 1 < (s.channel 5).cadence.period) := by decide +kernel

theorem witness_TheCounterAndTheCadencesAdvance_boundary :
    let s := cadence 1200 ⟨1, 1⟩ ⟨40, 10⟩ .a false 0 true
    (s.channel 5).running = true ∧ (s.channel 5).stepTick ≠ s.sct.tick ∧
      (s.channel 5).cadence.period ≤ (s.channel 5).phase + 1 ∧ (s.channel 5).pending = false := by decide +kernel

theorem witness_StationSetStoresTheFields :
    received run (hd 8) 8 ∧ readStation 383 = some 383 ∧
      readStationCfg 3 47 63 1 0x1234 =
        some { cls := 3, pickup := some 47, coverage := some 63, startService := .out, label := 0x1234 } ∧
      run.isSaving = false ∧ (run.station 383).state ≠ .ringing ∧ received pickupRace (hd 8) 8 ∧
      pickupRace.isSaving = false ∧ (pickupRace.station 40).state = .ringing ∧ (pickupRace.station 40).call = some 88 ∧
      (pickupRace.station 40).cfg.pickup ≠ some 47 := by decide +kernel

/-- A GROUP SET body of group 5 with a method and a queue limit. -/
def groupBody (action method queueLimit : Byte) : GroupSetBody :=
  { group := 5, action := action, method := method, noAnswer := 6000, wrapup := 12000, roundLimit := 15,
    queueLimit := queueLimit, overflowGroup := 63, overflowTicks := 60000, nightGroup := 0xFF, autoLogin := 1 }

/-- What that body stores. -/
def groupValues (method : Method) (queueLimit : Nat) : GroupCfg :=
  { method := method, noAnswer := 6000, wrapup := 12000, roundLimit := 15, queueLimit := queueLimit,
    overflowGroup := some 63, overflowTicks := 60000, nightGroup := none, autoLogin := true }

/-- Group 5 in service with queue length 2 and method WEIGHTED. -/
def waitingGroup : State := (weightedTeam 0 0 0 []).modGroup 5 fun g => { g with queue := [7, 8] }

theorem witness_GroupSetWritesOrDeletes :
    received run (hd 14) 14 ∧ readFin 64 (5 : Byte).toNat = some (5 : GroupId) ∧ run.isSaving = false ∧
      readGroupCfg 5 (groupBody 0 4 2) = some (groupValues .weighted 2) ∧ (run.group 5).queue.length ≤ 2 ∧
      (run.group 5).service = .unused ∧ received waitingGroup (hd 14) 14 ∧ waitingGroup.isSaving = false ∧
      (waitingGroup.group 5).queue.length ≤ 2 ∧ (waitingGroup.group 5).service ≠ .unused ∧
      (groupValues .weighted 2).method = (waitingGroup.group 5).cfg.method ∧
      readGroupCfg 5 (groupBody 0 0 2) = some (groupValues .linear 2) ∧
      (groupValues .linear 2).method ≠ (waitingGroup.group 5).cfg.method ∧
      readGroupCfg 5 (groupBody 0 4 1) = some (groupValues .weighted 1) ∧
      (groupValues .weighted 1).queueLimit < (waitingGroup.group 5).queue.length := by decide +kernel

theorem witness_GroupSetWritesOrDeletes_delete :
    let s := run.modGroup 5 fun g => { g with service := .closed }
    received s (hd 14) 14 ∧ s.isSaving = false ∧ (groupBody 1 0 0).action = 1 ∧ (s.group 5).service ≠ .unused ∧
      (s.group 5).members = [] ∧ (∀ c, (s.call c).state = .free ∨ (s.call c).current ≠ some 5) ∧
      (s.group 5).ann.state = .idle ∧ (s.group 5).beacon.state = .off ∧ (waitingGroup.group 5).members ≠ [] := by
  decide +kernel

theorem witness_MemberEntriesComeAndGo :
    let s := weightedTeam 0 0 0 []
    received s (hd 6) 6 ∧ readFin 64 (5 : Byte).toNat = some (5 : GroupId) ∧ readStation 383 = some 383 ∧
      readRange 1 8 (8 : Byte).toNat = some 8 ∧ readPosition 31 (s.group 5).members.length 4 = some 4 ∧
      readPosition 3 (s.station 383).memberships.length 0xFF = some 0 ∧ (s.group 5).service ≠ .unused ∧
      s.isSaving = false ∧ entryOf (s.group 5) 383 = none ∧ (s.group 5).members.length < 32 ∧
      (s.station 383).memberships.length < 4 ∧ poolFree s ≠ 0 ∧ received s (hd 3) 3 ∧ entryOf (s.group 5) 101 ≠ none ∧
      ringsForGroup s 101 5 = none ∧ (s.group 5).members.findIdx? (fun m => m.station == 101) ≠ none := by decide +kernel

/-- The circular position on either side of a removed entry, at it, at 0 and of the only entry (R30). -/
theorem witness_MemberEntriesComeAndGo_circular :
    let s := weightedTeam 0 0 0 []
    let at_ (n : Nat) := s.modGroup 5 fun r => { r with circ := n }
    let circ (n i : Nat) := ((dropMember (at_ n) 5 (((s.group 5).members.map fun m => m.station).getD i 0)).group 5).circ
    let one := s.modGroup 5 fun r => { r with members := r.members.take 1 }
    2 < (s.group 5).members.length ∧ circ 2 1 = 1 ∧ circ 1 1 = 0 ∧ circ 0 0 = (s.group 5).members.length - 2 ∧ circ 1 2 = 1 ∧
      (one.group 5).members.length = 1 ∧
      ((dropMember one 5 (((s.group 5).members.map fun m => m.station).getD 0 0)).group 5).circ = 0 := by decide +kernel

theorem witness_MemberEntriesComeAndGo_ringing :
    received pickupRace (hd 3) 3 ∧ (pickupRace.group 7).service ≠ .unused ∧ pickupRace.isSaving = false ∧
      entryOf (pickupRace.group 7) 40 ≠ none ∧ ringsForGroup pickupRace 40 7 = some 88 := by decide +kernel

/-- An ANNOUNCE SET body of group 12. -/
def announceBody (pageGroup : Byte) : AnnounceSetBody :=
  { group := 12, pageGroup := pageGroup, priority := 2, channel := 15, tone := 3, length := 6000, arrivalCount := 32,
    duringCount := 32, delay := 60000 }

/-- Group 12 with its announcement ARMED. -/
def armed : State := announcing 1300 { state := .armed, counter := 2, delayDl := some 4000, live := none } [50, 51]

theorem witness_AnnounceAndBeaconParametersAreStored :
    received armed (hd 11) 11 ∧ (armed.group 12).service ≠ .unused ∧ armed.isSaving = false ∧
      readAnnounce (announceBody 63) = some
        { pageGroup := some 63, priority := 2, channel := 15, tone := 3, length := 6000, arrivalCount := 32,
          duringCount := 32, delay := 60000 } ∧
      readAnnounce (announceBody 0xFF) = some
        { pageGroup := none, priority := 2, channel := 15, tone := 3, length := 6000, arrivalCount := 32,
          duringCount := 32, delay := 60000 } ∧
      (armed.group 12).ann.state = .armed ∧ received armed (hd 5) 5 ∧
      readBeacon 0xFF 5 0 = some { zone := none, channel := 5, debounce := 0 } ∧
      readBeacon 47 5 6000 = some { zone := some 47, channel := 5, debounce := 6000 } ∧
      readBeacon 47 15 6000 = some { zone := some 47, channel := 15, debounce := 6000 } ∧
      (armed.group 12).beacon.state ≠ .off ∧ (armed.group 12).beaconP.channel = 5 := by decide +kernel

theorem witness_AnnounceAndBeaconParametersAreStored_off :
    received waitingGroup (hd 5) 5 ∧ (waitingGroup.group 5).beacon.state = .off ∧
      (waitingGroup.group 5).beaconP.zone = none ∧ (waitingGroup.group 5).queue ≠ [] ∧
      (waitingGroup.group 5).service ≠ .unused ∧ waitingGroup.isSaving = false := by decide +kernel

theorem witness_TableRequestsWriteOneRecord :
    run.isSaving = false ∧ received run (hd 5) 5 ∧ readFin 48 (47 : Byte).toNat = some (47 : PickupId) ∧
      readLinks 3 0 1 46 = some [0, 1, 46] ∧ (47 : PickupId) ∉ ([0, 1, 46] : List PickupId) ∧
      ([0, 1, 46] : List PickupId).Nodup ∧ received run (hd 8) 8 ∧ readFin 4 (3 : Byte).toNat = some (3 : ClassId) ∧
      readClass { cls := 3, capabilities := 15, recallTicks := 60000, coverageTicks := 0, directory := 7, entry := 127 } =
        some { directed := true, queuePickup := true, park := true, summon := true, recallTicks := 60000, coverageTicks := 0,
               announceCode := some (7, 127) } ∧
      received run (hd 3) 3 ∧ readFin 8 (7 : Byte).toNat = some (7 : DirectoryId) ∧ (127 : Byte).toNat ≤ 127 ∧
      (127 : Byte).toNat + (1 : Byte).toNat ≤ 128 := by decide +kernel

/-- An ENTRY SET body of entry 43. -/
def entryBody (pageGroup : Byte) : EntrySetBody :=
  { entry := 43, pageGroup := pageGroup, priority := 3, sourceKind := 1, preludeChannel := 15, preludeTone := 3,
    preludeTicks := 500, maxDuration := 30000, waitTicks := 6000 }

/-- What it stores. -/
def entryValues (pageGroup : Option PageGroupId) : CodeEntry :=
  { pageGroup := pageGroup, priority := 3, sourceKind := .prompt, preludeChannel := 15, preludeTone := 3,
    preludeTicks := 500, maxDuration := 30000, waitTicks := 6000 }

/-- A PAGE GROUP SET body of page group 31. -/
def pageGroupBody (kind : Byte) : PageGroupSetBody :=
  { pageGroup := 31, kind := kind, target := 63, zones := 0x800000000001, ceiling0 := 0xFF, ceiling1 := 3, ceiling2 := 0,
    ceiling3 := 0, label := 1 }

/-- The example of chapter 5 with a live page on code entry 43 and page group 31. -/
def restedOn : State :=
  dialling.modPage 9 fun p => { p with state := .queued, codeEntry := some 43, chain := [12, 30, 31] }

theorem witness_TableRequestsWriteOneRecord_inUse :
    received restedOn (hd 12) 12 ∧ restedOn.isSaving = false ∧ readFin 128 (43 : Byte).toNat = some (43 : EntryId) ∧
      readEntry (entryBody 63) = some (entryValues (some 63)) ∧ readEntry (entryBody 0xFF) = some (entryValues none) ∧
      liveOnEntry restedOn 43 ≠ 0 ∧ liveOnEntry restedOn 44 = 0 ∧ received restedOn (hd 15) 15 ∧
      readFin 64 (31 : Byte).toNat = some (31 : PageGroupId) ∧
      readPageGroup 31 (pageGroupBody 0) =
        some { kind := .empty, ceilings := #v[none, some 3, some 0, some 0], label := 1 } ∧
      readPageGroup 31 (pageGroupBody 1) =
        some { kind := .direct [0, 47], ceilings := #v[none, some 3, some 0, some 0], label := 1 } ∧
      readPageGroup 31 (pageGroupBody 2) =
        some { kind := .indirect 63, ceilings := #v[none, some 3, some 0, some 0], label := 1 } ∧
      liveOnGroup restedOn 31 ≠ 0 ∧ liveOnGroup restedOn 32 = 0 := by decide +kernel

theorem witness_CadenceSetWritesOneSlot :
    let s := cadence 1272 ⟨100, 50⟩ ⟨20, 5⟩ .b false 12 false
    received s (hd 6) 6 ∧ readFin 16 (5 : Byte).toNat = some (5 : ChannelId) ∧ readSlot 0 = some .a ∧ readSlot 1 = some .b ∧
      readCadence 1000 0 = some { period := 1000, on := 0 } ∧ readCadence 12 12 = some { period := 12, on := 12 } ∧
      readCadence 13 13 = some { period := 13, on := 13 } ∧ s.isSaving = false ∧ Slot.a ≠ (s.channel 5).active ∧
      Slot.b = (s.channel 5).active ∧ (s.channel 5).running = true ∧ 12 ≤ (s.channel 5).phase ∧ (s.channel 5).phase < 13 ∧
      (s.channel 6).running = false ∧ Slot.a = (s.channel 6).active := by decide +kernel

theorem witness_ModuleSetChangesTheType :
    let s := faultedFive .present .holdoff .overtemp 2
    received s (hd 2) 2 ∧ readFin 24 (23 : Byte).toNat = some (23 : ModuleId) ∧ readModuleType 0 = some .none ∧
      readModuleType 2 = some .beacon ∧ s.isSaving = false ∧ (s.fieldModule 23).configured = .none ∧
      (s.fieldModule 23).configured ≠ .beacon ∧ (s.fieldModule 23).state = .absent ∧
      (s.fieldModule 5).configured ≠ .beacon ∧ (s.fieldModule 5).state = .present := by decide +kernel

theorem witness_DirectoryAndEntryQueriesReadTheirRecords :
    received run (hd 1) 1 ∧ readFin 8 (7 : Byte).toNat = some (7 : DirectoryId) ∧ 8 ≤ (8 : Byte).toNat ∧
      readFin 128 (127 : Byte).toNat = some (127 : EntryId) ∧ 128 ≤ (128 : Byte).toNat := by decide +kernel

theorem witness_ShortQueriesReadTheirRecords :
    received run (hd 2) 2 ∧ readStation 383 = some 383 ∧ received run (hd 1) 1 ∧
      readFin 32 (31 : Byte).toNat = some (31 : OrbitId) ∧ readFin 4 (3 : Byte).toNat = some (3 : ClassId) ∧
      readFin 8 (7 : Byte).toNat = some (7 : BusId) ∧ readFin 16 (15 : Byte).toNat = some (15 : ChannelId) ∧
      readFin 24 (23 : Byte).toNat = some (23 : ModuleId) ∧ readFin 48 (47 : Byte).toNat = some (47 : ZoneId) ∧
      readFin 64 (63 : Byte).toNat = some (63 : PageGroupId) := by decide +kernel

theorem witness_LongQueriesReadTheirParts :
    received run (hd 1) 1 ∧ received run (hd 2) 2 ∧ readFin 192 (191 : Byte).toNat = some (191 : CallId) ∧
      (partFields (callQueryFields run 191) 0).isSome = true ∧ partFields (callQueryFields run 191) 1 = none ∧
      readFin 64 (63 : Byte).toNat = some (63 : GroupId) ∧ (partFields (groupQueryFields run 63) 0).isSome = true ∧
      partFields (groupQueryFields run 63) 255 = none ∧ readFin 48 (47 : Byte).toNat = some (47 : PickupId) ∧
      (partFields (pickupGroupFields run 47) 0).isSome = true ∧ partFields (pickupGroupFields run 47) 1 = none ∧
      readFin 16 (15 : Byte).toNat = some (15 : PageId) ∧ (partFields (pageFields run 15) 1).isSome = true ∧
      partFields (pageFields run 15) 2 = none ∧ (∀ f ∈ callQueryFields run 191, f.length ≤ 55) := by decide +kernel


/-! ### Stations and calls -/

/-- A connected, parked, recalling or ringing call 88 of group 7 at station 40, in orbit 31 when it has one; station 40 is in
the given state and class 3 may park. -/
def oneCall (station : StationState) (state : CallState) (kind : CallKind) (ringing : List StationId) (orbit : Option OrbitId) :
    State :=
  let s := (run.modStation 40 fun t => { t with state := station, call := some 88, cfg := { t.cfg with cls := 3 } }).modCall 88
    fun _ => { groupCall 7 state 1 0 ringing 14 with
      kind := kind, answering := if state = .connected then some 40 else none, orbit := orbit, parker := orbit.map fun _ => 40,
      ringDl := some 0 }
  let s := s.modClass 3 fun k => { k with park := true, directed := true, recallTicks := 6000 }
  match orbit with
  | none => s
  | some o =>
    { s.modOrbit o fun _ => { state := .held, call := some 88, gen := 3, parker := some 40, recallDl := some 0 } with
      ppu := { (s.modOrbit o fun _ => { state := .held, call := some 88, gen := 3, parker := some 40, recallDl := some 0 }).ppu
               with freeOrder := s.ppu.freeOrder.erase o } }

theorem witness_HookEventsMoveTheStation :
    received run (hd 3) 3 ∧ readStation 383 = some 383 ∧ run.cl.mode = .run ∧ (run.station 383).state = .idle ∧
      received beforeWrapupEnds (hd 3) 3 ∧ beforeWrapupEnds.cl.mode = .run ∧ (beforeWrapupEnds.station 17).state = .wrapup ∧
      received beforeAnswer (hd 3) 3 ∧ beforeAnswer.cl.mode = .run ∧ (beforeAnswer.station 20).state = .ringing ∧
      (beforeAnswer.station 20).call = some 33 ∧ received dialling (hd 3) 3 ∧ (dialling.station 61).state = .busy ∧
      (dialling.station 61).voicePage = none := by decide +kernel

theorem witness_HookEventsMoveTheStation_onHook :
    let s := oneCall .talking .connected .group [] none
    let d := oneCall .talking .connected .direct [] none
    let v := (emergency 3000 none).modStation 60 fun t => { t with state := .busy, voicePage := some 1 }
    received s (hd 3) 3 ∧ s.cl.mode = .run ∧ (s.station 40).state = .talking ∧ (s.station 40).call = some 88 ∧
      (s.call 88).kind = .group ∧ (s.call 88).current = some 7 ∧ received d (hd 3) 3 ∧ (d.station 40).state = .talking ∧
      (d.call 88).kind = .direct ∧ received v (hd 3) 3 ∧ v.cl.mode = .run ∧ (v.station 60).state = .busy ∧
      (v.station 60).voicePage = some 1 := by decide +kernel

theorem witness_CallsAreAnsweredTakenAndFreed :
    let a := oneCall .ringing .ringing .group [40] none
    let r := oneCall .ringing .recalling .group [40] (some 31)
    let p := oneCall .busy .parked .group [] (some 31)
    let f := (oneCall .talking .connected .group [] none).modStation 40 fun t => { t with dnd := true }
    (a.call 88).ringing = [40] ∧ a.cl.reports.length < 64 ∧ (a.call 88).state ≠ .recalling ∧ (r.call 88).ringing = [40] ∧
      (r.call 88).state = .recalling ∧ (r.call 88).orbit = some 31 ∧ (p.call 88).ringing = [] ∧
      (p.call 88).annPage = none ∧ (p.station 40).voicePage = none ∧ (p.call 88).state ≠ .queued ∧
      (p.call 88).orbit = some 31 ∧ (f.call 88).state = .connected ∧ (f.call 88).answering = some 40 ∧
      (f.call 88).ringing = [] ∧ (f.call 88).orbit = none ∧ (f.call 88).annPage = none ∧ (f.station 40).dnd = true := by
  decide +kernel

/-- Station 383 in a state with its do-not-disturb flag. -/
def resting (state : StationState) (dnd : Bool) : State := run.modStation 383 fun t => { t with state := state, dnd := dnd }

theorem witness_ServiceOffAndDoNotDisturb :
    received (resting .out true) (hd 3) 3 ∧ readStation 383 = some 383 ∧ (resting .out true).cl.mode = .run ∧
      ((resting .out true).station 383).state = .out ∧ received (resting .idle true) (hd 3) 3 ∧
      ((resting .idle true).station 383).state = .idle ∧ ((resting .idle true).station 383).dnd = true ∧
      ((resting .wrapup true).station 383).state = .wrapup ∧ ((resting .busy false).station 383).state = .busy ∧
      ((resting .busy false).station 383).voicePage = none ∧ ((resting .busy false).station 383).dnd = false ∧
      received (resting .busy false) (hd 3) 3 := by decide +kernel

theorem witness_ServiceOnTakesTheStationToIdle :
    received (resting .out true) (hd 3) 3 ∧ readStation 383 = some 383 ∧ (resting .out true).cl.mode = .run ∧
      ((resting .out true).station 383).state = .out ∧ ((resting .out true).station 383).dnd = true ∧
      received (resting .out false) (hd 3) 3 ∧ ((resting .out false).station 383).state = .out ∧
      ((resting .out false).station 383).dnd = false ∧ ((resting .idle true).station 383).state ≠ .out := by decide +kernel

theorem witness_DirectOfferRingsItsStation :
    let s := (resting .idle false).modStation 383 fun t => { t with cfg := { t.cfg with pickup := some 47 } }
    received s (hd 6) 6 ∧ s.cl.mode = .run ∧ readStation 383 = some 383 ∧ readFin 4 (3 : Byte).toNat = some (3 : Priority) ∧
      (s.station 383).state = .idle ∧ (s.station 383).dnd = false ∧ (s.call 0).state = .free ∧
      (∀ d, d < (0 : CallId) → (s.call d).state ≠ .free) ∧ (s.station 383).cfg.pickup = some 47 := by decide +kernel

/-- Group 63 in a service state with members and room in the queue. -/
def oneGroup (service : ServiceState) (method : Method) (ms : List Member) (limit : Nat) : State :=
  run.modGroup 63 fun g =>
    { g with service := service, members := ms, cfg := { g.cfg with method := method, queueLimit := limit } }

theorem witness_GroupOffersArriveOrAreRefused :
    let s := oneGroup .inService .linear [member 383 1 0] 0
    let full := oneGroup .inService .linear [] 0
    let room := oneGroup .inService .linear [] 64
    received s (hd 6) 6 ∧ s.cl.mode = .run ∧ readFin 64 ((0xFF3F : Half).toNat % 256) = some (63 : GroupId) ∧
      (s.group 63).service = .inService ∧ (s.call 0).state = .free ∧ (∀ d, d < (0 : CallId) → (s.call d).state ≠ .free) ∧
      arrivalOk s 0 0 3 63 = true ∧ (s.group 63).cfg.method = .linear ∧
      (s.group 63).members.find? (fun e => (s.station e.station).available && e.loggedIn) = some (member 383 1 0) ∧
      (0 : CallId) ∉ (s.group 63).queue ∧ (∀ d, d ∈ (s.group 63).queue → (s.call d).priority < 0) ∧
      received full (hd 6) 6 ∧ (full.group 63).service = .inService ∧ (full.call 0).state = .free ∧
      arrivalOk full 0 3 3 63 = false ∧ received room (hd 6) 6 ∧ (room.group 63).service = .inService ∧
      (room.call 0).state = .free ∧ anyFree room 63 = false ∧
      ((room.group 63).queue.erase 0).length < (room.group 63).cfg.queueLimit := by decide +kernel

theorem witness_GroupOffersArriveOrAreRefused_refusals :
    let held : State := { run with sct := { run.sct with calls := Vector.replicate 192 { Call.freed 1 with state := .parked } } }
    received run (hd 6) 6 ∧ run.cl.mode = .run ∧ readStation 383 = some 383 ∧
      ((resting .busy false).station 383).available = false ∧ received held (hd 6) 6 ∧
      (held.station 383).available = true ∧ (∀ c, (held.call c).state ≠ .free) ∧
      ((oneGroup .closed .linear [] 0).group 63).service = .closed ∧ (run.group 63).service = .unused ∧
      (let s := held.modGroup 63 fun g => { g with service := .night }
       (s.group 63).service ≠ .unused ∧ (s.group 63).service ≠ .closed ∧ ∀ c, (s.call c).state ≠ .free) := by decide +kernel

theorem witness_CallGoneFreesTheCall :
    let s := threeClaims 2000 []
    received s (hd 2) 2 ∧ s.cl.mode = .run ∧ readFin 192 (12 : Byte).toNat = some (12 : CallId) ∧
      readFin 192 (191 : Byte).toNat = some (191 : CallId) ∧ (2 : Byte) ≠ 0 ∧ 2 ≠ (s.call 12).gen ∧ 1 = (s.call 12).gen ∧
      (s.call 191).state = .free ∧ (s.call 12).state = .queued ∧ (s.call 12).current = some 4 ∧ (s.call 12).ringing = [] ∧
      (s.call 12).answering = none ∧ (s.call 12).orbit = none ∧ (s.call 12).annPage = none := by decide +kernel

theorem witness_WrapupAndCoverageExpire :
    let s := beforeWrapupEnds
    let d := oneCall .ringing .ringing .direct [40] none
    let c := d.modStation 40 fun t => { t with cfg := { t.cfg with coverage := some 63 } }
    (s.station 17).state = .wrapup ∧ due s.sct.tick (s.station 17).wrapupDl = true ∧
      due s.sct.tick (s.station 18).wrapupDl = false ∧ (d.call 88).state = .ringing ∧ (d.call 88).kind = .direct ∧
      due d.sct.tick (d.call 88).ringDl = true ∧ (d.call 88).ringing = [40] ∧ (d.station 40).cfg.coverage = none ∧
      (c.station 40).cfg.coverage = some 63 ∧ (c.call 88).ringing = [40] ∧ due d.sct.tick (d.call 89).ringDl = false := by
  decide +kernel

/-- Group 7 with a method and overflow group 63 or none, the overflow group taking calls or not, over a state. -/
def overflowing (s : State) (method : Method) (overflow : Option GroupId) (room : Nat) : State :=
  (s.modGroup 7 fun g =>
    { team method [member 40 1 0] [] g with cfg := { g.cfg with method := method, overflowGroup := overflow } }).modGroup 63
    fun g => { g with service := .inService, cfg := { g.cfg with queueLimit := room } }

theorem witness_RingAndOverflowDeadlinesExpire :
    let s (m : Method) (o : Option GroupId) (n : Nat) := overflowing (oneCall .ringing .ringing .group [40] none) m o n
    ((s .linear none 0).call 88).current = some 7 ∧ ((s .linear none 0).call 88).state = .ringing ∧
      ((s .linear none 0).call 88).kind = .group ∧
      due (s .linear none 0).sct.tick ((s .linear none 0).call 88).ringDl = true ∧
      ((s .linear none 0).group 7).cfg.method ≠ .ringAll ∧ ((s .ringAll none 0).group 7).cfg.method = .ringAll ∧
      ((s .ringAll none 0).group 7).cfg.overflowGroup = none ∧
      ((s .ringAll (some 63) 0).group 7).cfg.overflowGroup = some 63 ∧
      redirectTest ((s .ringAll (some 63) 0).modCall 88 fun d => { d with ringDl := none }) 88 63 = some .arrival ∧
      redirectTest ((s .ringAll (some 63) 1).modCall 88 fun d => { d with ringDl := none }) 88 63 = none ∧
      ((s .linear none 0).call 88).state ≠ .queued := by decide +kernel

theorem witness_RingAndOverflowDeadlinesExpire_queued :
    let s (o : Option GroupId) (n : Nat) := (overflowing (oneCall .idle .queued .group [] none) .linear o n).modCall 88
      fun d => { d with overflowDl := some 0 }
    ((s none 0).call 88).current = some 7 ∧ ((s none 0).call 88).state = .queued ∧
      due (s none 0).sct.tick ((s none 0).call 88).overflowDl = true ∧ ((s none 0).group 7).cfg.overflowGroup = none ∧
      ((s (some 63) 0).group 7).cfg.overflowGroup = some 63 ∧ redirectTest (s (some 63) 0) 88 63 = some .arrival ∧
      redirectTest (s (some 63) 1) 88 63 = none := by decide +kernel

theorem witness_LoginsSetTheirFlags :
    let s := (weightedTeam 0 0 0 []).modStation 104 fun t => { t with memberships := [5] }
    received s (hd 3) 3 ∧ s.cl.mode = .run ∧ readStation 104 = some 104 ∧
      readOpt 64 5 = some (some (5 : GroupId)) ∧ readOpt 64 0xFF = some (none : Option GroupId) ∧
      loginGroups s 104 (some 5) = some [5] ∧ loginGroups s 104 none = some [5] ∧ loginChanges s 104 true [5] = [5] ∧
      loginGroups s 103 (some 5) = some [5] ∧ loginChanges s 103 true [5] = [] ∧ loginChanges s 103 false [5] = [5] ∧
      ringsForGroup s 103 5 = none ∧ loginGroups s 383 none = none ∧ loginGroups s 383 (some 5) = none := by decide +kernel

theorem witness_GroupModeSwitchesTheGroup :
    let s (m : ServiceState) (n : Option GroupId) (q : List CallId) := (oneGroup m .linear [] 8).modGroup 63 fun g =>
      { g with queue := q, cfg := { g.cfg with nightGroup := n } }
    received (s .closed none []) (hd 2) 2 ∧ readFin 64 (63 : Byte).toNat = some (63 : GroupId) ∧
      ((s .closed none []).group 63).service ≠ .unused ∧ readMode 3 = some .closed ∧
      ((s .closed none []).group 63).service = .closed ∧ ((s .inService none [3]).group 63).service ≠ .closed ∧
      ((s .inService none [3]).group 63).service ≠ .night ∧ ((s .inService none [3]).group 63).cfg.nightGroup = none ∧
      ((s .inService (some 0) [3]).group 63).cfg.nightGroup = some 0 ∧ ((s .night none []).group 63).service ≠ .inService ∧
      ((s .night none []).group 63).cfg.method ≠ .ringAll ∧ ((s .night none []).group 63).queue = [] := by decide +kernel

/-! ### Pickup and park -/

theorem witness_PickupsTakeTheirCall :
    let s := pickupRace
    readStation 41 = some 41 ∧ s.cl.mode = .run ∧ (s.station 41).state = .idle ∧ received s (hd 4) 4 ∧
      firstRing s (searchedGroups s 41) = some (88, 3) ∧ readStation 44 = some 44 ∧ (s.station 44).state = .idle ∧
      firstRing s (searchedGroups s 44) = none ∧ (91 : Byte) ≠ 0xFF ∧ readFin 192 (91 : Byte).toNat = some (91 : CallId) ∧
      (2 : Byte) ≠ 0 ∧ 2 ≠ (s.call 91).gen ∧ 3 = (s.call 91).gen ∧ (s.call 91).state = .ringing ∧
      ringOf s (searchedGroups s 41) 91 = some (91, 3) ∧ ringOf s (searchedGroups s 44) 91 = none ∧
      readFin 192 (191 : Byte).toNat = some (191 : CallId) ∧ (s.call 191).state ≠ .ringing ∧
      (s.call 191).state ≠ .recalling ∧ received s (hd 5) 5 ∧ readStation 40 = some 40 ∧ (s.classOf 41).directed = false ∧
      (s.classOf 44).directed = true ∧ 25 ≠ (s.station 40).ringGen ∧ 26 = (s.station 40).ringGen ∧
      (s.station 40).state = .ringing ∧ (s.station 40).call = some 88 ∧ (s.station 41).state ≠ .ringing := by decide +kernel

theorem witness_PickupsTakeTheirCall_queue_and_orbit :
    let s := waitingGroup.modClass 0 fun k => { k with queuePickup := true }
    let e := s.modGroup 5 fun g => { g with queue := [] }
    let o := oneCall .busy .parked .group [] (some 31)
    received s (hd 3) 3 ∧ readStation 0 = some 0 ∧ s.cl.mode = .run ∧ (s.station 0).state = .idle ∧
      readFin 64 (5 : Byte).toNat = some (5 : GroupId) ∧ (s.group 5).service ≠ .unused ∧
      (waitingGroup.classOf 0).queuePickup = false ∧ (s.classOf 0).queuePickup = true ∧ (s.group 5).queue = [7, 8] ∧
      (e.classOf 0).queuePickup = true ∧ (e.group 5).queue = [] ∧ received o (hd 4) 4 ∧ o.cl.mode = .run ∧
      (o.station 0).state = .idle ∧ readFin 32 (31 : Byte).toNat = some (31 : OrbitId) ∧ (o.orbit 31).state = .held ∧
      (o.orbit 31).call = some 88 ∧ (2 : Byte) ≠ 0 ∧ 2 ≠ (o.orbit 31).gen ∧ 3 = (o.orbit 31).gen ∧
      readFin 32 (0 : Byte).toNat = some (0 : OrbitId) ∧ (o.orbit 0).state = .free := by decide +kernel

theorem witness_ParkHoldsTheCallInAnOrbit :
    let s := oneCall .talking .connected .group [] none
    let d := s.modClass 3 fun k => { k with park := false }
    let f := { s with ppu := { s.ppu with freeOrder := [] } }
    let h := s.modOrbit 31 fun r => { r with state := .held }
    received s (hd 6) 6 ∧ s.cl.mode = .run ∧ readStation 40 = some 40 ∧ (s.station 40).state = .talking ∧
      (s.station 40).call = some 88 ∧ readOpt 32 31 = some (some (31 : OrbitId)) ∧
      readOpt 32 0xFF = some (none : Option OrbitId) ∧ readPageCode 7 127 = some (some (7, 127)) ∧
      readPageCode 0xFF 0xFF = some none ∧ (d.classOf 40).park = false ∧ received d (hd 6) 6 ∧
      (h.classOf 40).park = true ∧ (h.orbit 31).state = .held ∧ received f (hd 6) 6 ∧ f.ppu.freeOrder = [] ∧
      (s.classOf 40).park = true ∧ s.ppu.freeOrder.head? = some 0 ∧ (s.orbit 31).state = .free := by decide +kernel

theorem witness_RecallsRingTheParkerOrCover :
    let s := oneCall .idle .parked .group [] (some 31)
    let b := oneCall .busy .parked .group [] (some 31)
    let covered (s : State) := (s.modStation 40 fun t => { t with cfg := { t.cfg with coverage := some 63 } }).modGroup 63
      fun g => { g with service := .inService, cfg := { g.cfg with queueLimit := 1 } }
    let u (s : State) := s.modOrbit 31 fun r => { r with recallDl := none }
    let r := oneCall .ringing .recalling .group [40] (some 31)
    (s.orbit 31).state = .held ∧ (s.orbit 31).call = some 88 ∧ (s.orbit 31).parker = some 40 ∧
      due s.sct.tick (s.orbit 31).recallDl = true ∧ (s.station 40).available = true ∧ (s.call 88).annPage = none ∧
      (b.orbit 31).state = .held ∧ due b.sct.tick (b.orbit 31).recallDl = true ∧ (b.station 40).available = false ∧
      coverageRecallGroup (u b) 88 40 = none ∧ ((covered b).station 40).available = false ∧
      coverageRecallGroup (u (covered b)) 88 40 = some 63 ∧ (r.call 88).state = .recalling ∧ (r.call 88).orbit = some 31 ∧
      (r.call 88).parker = some 40 ∧ due r.sct.tick (r.call 88).ringDl = true ∧ coverageRecallGroup r 88 40 = none ∧
      coverageRecallGroup (covered r) 88 40 = some 63 ∧ (s.orbit 0).state = .free ∧ (s.call 88).state ≠ .recalling := by
  decide +kernel

/-! ### Pages and announcements -/

/-- The refusal of a check. -/
def errorOf {α : Type} : Except Code α → Option Code
  | .error e => some e
  | .ok _ => none

theorem error_of_errorOf {α : Type} {r : Except Code α} {e : Code} (h : errorOf r = some e) : r = .error e := by
  cases r with
  | error f => cases h; rfl
  | ok v => cases h

theorem ok_of_errorOf {α : Type} {r : Except Code α} (h : errorOf r = none) : ∃ v, r = .ok v := by
  cases r with
  | error f => cases h
  | ok v => exact ⟨v, rfl⟩

/-- A request for a page in zones 10 and 11. -/
def asked (priority : Priority) (wait : Nat) : PageRequest :=
  { kind := .voice, origin := .console, priority := priority, zones := [10, 11], source := .slot 9, preludeChannel := 0,
    preludeTone := 0, preludeTicks := 0, maxDuration := 100, waitTicks := wait, codeEntry := none, chain := [] }

theorem witness_PageStartAttempt :
    let full : State := { run with pgc := { run.pgc with pages := Vector.replicate 16 { Page.ended 1 with state := .queued } } }
    let s := normalPages 2000
    let free := s.modBus 7 fun _ => Bus.free
    let high := ([0, 1, 2, 3, 4, 5, 6, 7] : List PageId).foldl (fun s p => s.modPage p fun d =>
      { d with priority := if p = 0 then 0 else 3 }) s
    (∀ p, (full.page p).state ≠ .ended) ∧ (run.page 0).state = .ended ∧ (∀ r, r < (0 : PageId) → (run.page r).state ≠ .ended) ∧
      (∀ z, z ∈ (asked 3 0).zones → takeable run 3 (asked 3 0).zones z = false) ∧ (asked 3 0).waitTicks = 0 ∧
      (asked 3 6000).waitTicks ≠ 0 ∧ (s.page 8).state = .ended ∧ (∀ r, r < (8 : PageId) → (s.page r).state ≠ .ended) ∧
      (∃ z, z ∈ (asked 3 0).zones ∧ takeable s 3 (asked 3 0).zones z = true) ∧ (free.bus 7).page = none ∧
      (∀ a, a < (7 : BusId) → (free.bus a).page ≠ none) ∧
      (∃ z, z ∈ (asked 3 0).zones ∧ takeable free 3 (asked 3 0).zones z = true) ∧ (∀ b, (s.bus b).page ≠ none) ∧
      victim s 3 = some 0 ∧ (s.page 0).bus = some 0 ∧
      (∃ z, z ∈ (asked 1 0).zones ∧ takeable high 1 (asked 1 0).zones z = true) ∧ (high.page 8).state = .ended ∧
      (∀ b, (high.bus b).page ≠ none) := by decide +kernel

/-- A page without a bus plays in zone 10: no bus holder is a victim. -/
theorem witness_PageStartAttempt_no_victim :
    let s := ([2, 3, 4, 5, 6, 7, 1] : List PageId).foldl (fun s p => s.modPage p fun d => { d with priority := 3 })
      (normalPages 2000)
    let s := s.modPage 0 fun d => { d with priority := 3 }
    let s := s.modZone 10 fun d => { d with playing := none }
    (∃ z, z ∈ (asked 3 0).zones ∧ takeable s 3 (asked 3 0).zones z = true) ∧ (s.page 8).state = .ended ∧
      (∀ r, r < (8 : PageId) → (s.page r).state ≠ .ended) ∧ (∀ b, (s.bus b).page ≠ none) ∧ victim s 3 = none := by
  decide +kernel

theorem witness_PageCreatesAndStarts :
    received dialling (hd 5) 5 ∧ dialling.cl.mode = .run ∧ readRequester 62 = some (.station 62) ∧
      readRequester 0xFFFE = some .console ∧ 8 ≤ (8 : Byte).toNat ∧ readFin 8 (2 : Byte).toNat = some (2 : DirectoryId) ∧
      errorOf (resolveCode dialling 2 3 (rightsOf dialling (.station 61))) = some .denied ∧
      errorOf (resolveCode dialling 2 3 (rightsOf dialling (.station 62))) = none ∧
      errorOf (pageSource dialling (.station 62) .voice 0) = none ∧
      errorOf (pageSource dialling (.station 0) .voice 0) = some .wrongState ∧ (dialling.page 0).state = .ended ∧
      (dialling.bus 0).page = none ∧ (∀ a, a < (0 : BusId) → (dialling.bus a).page ≠ none) ∧
      takeable dialling 2 [4, 5, 6, 7, 20] 4 = true := by decide +kernel

/-- What the code of the example resolves to. -/
def dialled (s : State) : Option (Nat × Priority × List PageGroupId × List ZoneId) :=
  match resolveCode s 2 3 (rightsOf s (.station 62)) with
  | .ok v => some (v.code.waitTicks, v.code.priority, v.chain, v.zones)
  | .error _ => none

/-- The example with every zone of the code OUT OF SERVICE. -/
def dialledOff : State :=
  ([4, 5, 6, 7, 20] : List ZoneId).foldl (fun s z => s.modZone z fun d => { d with service := .outOfService }) dialling

theorem witness_PageCreatesAndStarts_resolved :
    dialled dialling = some (500, 2, [12, 30, 31], [4, 5, 6, 7, 20]) ∧
      dialled dialledOff = some (500, 2, [12, 30, 31], [4, 5, 6, 7, 20]) ∧
      errorOf (startAttempt (framerHunt dialling) { asked 2 0 with zones := [4, 5, 6, 7, 20] }) = none ∧
      errorOf (startAttempt (framerHunt dialledOff) { asked 2 0 with zones := [4, 5, 6, 7, 20] }) = some .noZones ∧
      (([4, 5, 6, 7, 20] : List ZoneId).any fun z => takeable dialledOff 2 [4, 5, 6, 7, 20] z) = false := by
  refine ⟨?_, ?_, ?_, ?_, ?_⟩ <;> decide +kernel

theorem witness_PageEndReleasesThePage :
    let s := emergency 3400 none
    let v := s.modPage 8 fun r => { r with origin := .station 60 }
    received s (hd 4) 4 ∧ s.cl.mode = .run ∧ readFin 16 (8 : Byte).toNat = some (8 : PageId) ∧ (26 : Byte) ≠ 0 ∧
      26 ≠ (s.page 8).gen ∧ 27 = (s.page 8).gen ∧ readFin 16 (15 : Byte).toNat = some (15 : PageId) ∧
      (s.page 15).state = .ended ∧ (s.page 8).state ≠ .ended ∧ readRequester 61 = some (.station 61) ∧
      (s.page 8).origin ≠ .station 61 ∧ readRequester 0xFFFE = some .console ∧ received v (hd 4) 4 ∧
      (v.page 8).origin = .station 60 ∧ readRequester 60 = some (.station 60) ∧ (s.page 8).bus = some 0 ∧
      (10 : ZoneId) ∈ (s.page 8).audible ∧ (s.zone 10).stack = [] ∧ (31 : ZoneId) ∉ (s.page 8).audible := by decide +kernel

theorem witness_DeadlinesEndPages :
    let s := emergency 8000 none
    let w := run.modPage 15 fun p => { p with state := .queued, waitDl := some 0 }
    (w.page 15).state = .queued ∧ (w.page 15).waitDl = some w.sct.tick ∧ (s.page 8).state = .playing ∧
      (s.page 8).endDl = some s.sct.tick ∧ (s.page 8).live = true ∧ remaining s.sct.tick 8000 ≤ 6000 := by decide +kernel

/-- The last old value that an extension of 6000 ticks still moves: one tick before the new one. -/
theorem witness_DeadlinesEndPages_extended :
    let s := emergency 2001 none
    (s.page 8).live = true ∧ (s.page 8).endDl = some (s.sct.tick + BitVec.ofNat 32 5999) := by decide +kernel

theorem witness_PreludeEndsInTheMainSource :
    let s := emergency 2200 (some 2200)
    let source (x : PageSource) := s.modPage 8 fun p => { p with source := x }
    (s.page 8).bus = some 0 ∧ due s.sct.tick (s.page 8).preludeDl = true ∧ (s.page 8).state = .prelude ∧
      (s.page 8).source = .slot 9 ∧ ((source (.prompt 255)).page 8).source = .prompt 255 ∧
      ((source (.tone 15 3)).page 8).source = .tone 15 3 ∧ (s.page 1).bus = some 1 ∧
      due s.sct.tick (s.page 1).preludeDl = false ∧ ((s.modPage 8 fun p => { p with state := .held }).page 8).state = .held := by
  decide +kernel

theorem witness_SummonTriggersExtendsAndHushes :
    let s := announcing 1300 { state := .armed, counter := 2, delayDl := some 4000, live := none } [50, 51]
    let i := announcing 1300 AnnLive.reset []
    let l := announcementPage (announcing 2000 { state := .live, counter := 1, delayDl := none, live := some (6, 3) } [51]) 2800
    let n := s.modGroup 12 fun g => { g with annP := { g.annP with pageGroup := none } }
    let a := (framerHunt s).modGroup 12 fun d => { d with ann := { d.ann with counter := 0, delayDl := none } }
    let b := a.modZone 2 fun d => { d with service := .outOfService }
    received s (hd 3) 3 ∧ s.cl.mode = .run ∧ readRequester 0 = some (.station 0) ∧ readRequester 0xFFFE = some .console ∧
      readFin 64 (12 : Byte).toNat = some (12 : GroupId) ∧ (s.group 12).service ≠ .unused ∧ maySummon s (.station 0) = false ∧
      maySummon s .console = true ∧ (n.group 12).annP.pageGroup = none ∧ received n (hd 3) 3 ∧
      (s.group 12).annP.pageGroup ≠ none ∧ received l (hd 3) 3 ∧ (l.group 12).ann.state = .live ∧
      (l.group 12).ann.live = some (6, 3) ∧ (s.group 12).ann.state = .armed ∧ (i.group 12).ann.state = .idle ∧
      received i (hd 3) 3 ∧ errorOf (announcementAttempt a 12) = none ∧
      errorOf (announcementAttempt b 12) = some .noZones ∧ (s.group 12).queue ≠ [] ∧ (i.group 12).queue = [] := by
  decide +kernel

theorem witness_AnnounceDelayAndDebounceExpire :
    let s := announcing 4000 { state := .armed, counter := 2, delayDl := some 4000, live := none } [50, 51]
    let d := s.modGroup 12 fun g => { g with beacon := { state := .debounce, dl := some 4000 } }
    (s.group 12).ann.state = .armed ∧ due s.sct.tick (s.group 12).ann.delayDl = true ∧
      (d.group 12).beacon.state = .debounce ∧ due d.sct.tick (d.group 12).beacon.dl = true ∧
      (s.group 12).beacon.state ≠ .debounce ∧ (s.group 11).ann.state ≠ .armed := by decide +kernel

/-! ### The field line -/

theorem witness_ZonesAreRestoredAndTakenOut :
    let s := faultedFive .present .holdoff .overtemp 2
    let m := faultedFive .missing .holdoff .overtemp 2
    let o := s.modZone 10 fun d => { d with service := .outOfService }
    received s (hd 2) 2 ∧ s.cl.mode = .run ∧ readFin 48 (10 : Byte).toNat = some (10 : ZoneId) ∧
      readFin 48 (47 : Byte).toNat = some (47 : ZoneId) ∧ (s.zone 47).service ≠ .faulted ∧ (s.zone 10).service = .faulted ∧
      (3 : Byte) ≠ 0 ∧ 3 ≠ (s.zone 10).faultGen ∧ 4 = (s.zone 10).faultGen ∧
      (s.fieldModule (moduleOf 10)).state = .present ∧ received m (hd 2) 2 ∧ (m.zone 10).service = .faulted ∧
      (m.fieldModule (moduleOf 10)).state ≠ .present ∧ (s.zone 10).service ≠ .outOfService ∧ received o (hd 2) 2 ∧
      (o.zone 10).service = .outOfService ∧ (o.zone 10).fault ≠ none ∧
      (((s.modZone 47 fun d => { d with service := .outOfService }).zone 47).fault = none) := by decide +kernel

theorem witness_FaultsAreLatched :
    let s := faultedFive .present .holdoff .overtemp 2
    (s.zone 47).service = .inService ∧ (s.zone 47).fault ≠ some .supply ∧ (s.zone 11).service ≠ .inService ∧
      (s.zone 11).fault ≠ some .supply ∧ (s.zone 11).fault = some .overtemp := by decide +kernel

theorem witness_IdentifyAnswersSetTheModule :
    let s := onLine (run.modModule 23 fun d => { d with configured := .amp }) (.exchange 23 .identify true)
    let m := onLine (run.modModule 23 fun d => { d with configured := .amp, sensed := .beacon, state := .mismatch })
      (.exchange 23 .identify false)
    s.flc.line = .exchange 23 .identify true ∧ (23 : Byte).toNat = (23 : ModuleId).val ∧ readTypeCode 1 = some .amp ∧
      readTypeCode 2 = some .beacon ∧ (s.fieldModule 23).state = .absent ∧ (s.fieldModule 23).configured = .amp ∧
      (s.fieldModule 23).configured ≠ .beacon ∧ m.flc.line = .exchange 23 .identify false ∧
      (m.fieldModule 23).state = .mismatch ∧ (m.fieldModule 23).configured = .amp ∧
      (((run.modZone 46 fun d => { d with service := .outOfService }).zone (zoneA 23)).service = .outOfService) := by
  decide +kernel

theorem witness_RouteAndPollAnswersAreTaken :
    let r : Route := { a := some 15, b := none }
    let s := onLine run (.exchange 23 (.route r) false)
    let p (x : ModuleState) := onLine (run.modModule 23 fun d => { d with state := x, sensed := .beacon }) (.exchange 23 .poll true)
    s.flc.line = .exchange 23 (.route r) false ∧ (23 : Byte).toNat = (23 : ModuleId).val ∧ [(15 : Byte)] = encSetting r.a ∧
      [(0xFF : Byte)] = encSetting r.b ∧ (p .present).flc.line = .exchange 23 .poll true ∧
      readStatusWord 0x7FFF = some (.load 0x7FFF) ∧ readStatusWord 0x8004 = some (.fault .supply) ∧
      ((p .present).fieldModule 23).state = .present ∧ ((p .missing).fieldModule 23).state = .missing ∧
      ((p .missing).fieldModule 23).sensed = .beacon ∧ ((p .mismatch).fieldModule 23).state = .mismatch ∧
      ((p .absent).fieldModule 23).state = .absent := by decide +kernel

theorem witness_FailedAttemptsAreRepeatedOnce :
    let m (x : ModuleState) (t : ModuleType) (again : Bool) :=
      onLine (run.modModule 23 fun d => { d with state := x, configured := t }) (.exchange 23 .poll again)
    (m .present .amp false).flc.line = .exchange 23 .poll false ∧ (22 : Byte).toNat ≠ (23 : ModuleId).val ∧
      (m .present .amp true).flc.line = .exchange 23 .poll true ∧ ((m .present .amp true).fieldModule 23).state = .present ∧
      ((m .missing .amp true).fieldModule 23).state = .missing ∧ ((m .absent .none true).fieldModule 23).state = .absent ∧
      ((m .mismatch .amp true).fieldModule 23).state = .mismatch ∧ ((m .mismatch .amp true).fieldModule 23).configured ≠ .none ∧
      ((m .mismatch .none true).fieldModule 23).state = .mismatch ∧
      ((m .mismatch .none true).fieldModule 23).configured = .none ∧ (onLine run .holdoff).flc.line = .holdoff := by
  decide +kernel

theorem witness_FailedAttemptsAreRepeatedOnce_no_exchange (m : ModuleId) (x : Exchange) (b : Bool) :
    (onLine run .holdoff).flc.line ≠ .exchange m x b := by
  intro h; cases h

theorem witness_TheFreeLineTakesItsNextExchange :
    let l (m : ModuleId) (x : ModuleState) (r : Option Route) (alert : Option (BitVec 16)) (c : Nat) : State :=
      let s := run.modModule m fun d => { d with state := x, pendingRoute := r }
      { s with flc := { s.flc with line := .alert 1, alert := alert, scanPos := m, scanCounter := c } }
    let r : Route := { a := some 7, b := none }
    (∃ w, (l 23 .present (some r) none 0).flc.line = .alert w) ∧ (onLine run .holdoff).flc.line = .holdoff ∧
      (l 23 .present none (some 0x8000) 0).flc.alert = some 0x8000 ∧ (l 23 .present (some r) none 0).flc.alert = none ∧
      ((l 23 .present (some r) none 0).fieldModule 23).state = .present ∧
      ((l 23 .present (some r) none 0).fieldModule 23).pendingRoute = some r ∧
      (∀ n, n < (23 : ModuleId) → ¬ (((l 23 .present (some r) none 0).fieldModule n).state = .present ∧
        ((l 23 .present (some r) none 0).fieldModule n).pendingRoute ≠ none)) ∧
      (∀ m, ¬ (((l 23 .missing none none 1).fieldModule m).state = .present ∧
        ((l 23 .missing none none 1).fieldModule m).pendingRoute ≠ none)) ∧
      ((l 23 .missing none none 1).fieldModule (l 23 .missing none none 1).flc.scanPos).state = .missing ∧
      ((l 23 .mismatch none none 1).fieldModule 23).state = .mismatch ∧
      (∀ m, ¬ (((l 23 .absent none none 0).fieldModule m).state = .present ∧
        ((l 23 .absent none none 0).fieldModule m).pendingRoute ≠ none)) ∧
      ((l 23 .absent none none 0).fieldModule 23).state = .absent ∧ (l 23 .absent none none 0).flc.scanCounter = 0 := by
  refine ⟨⟨1, rfl⟩, ?_⟩
  decide +kernel

theorem witness_TheFreeLineTakesItsNextExchange_walk :
    let l (m : ModuleId) (p : ModuleId) (c : Nat) : State :=
      let s := run.modModule m fun d => { d with state := .mismatch }
      { s with flc := { s.flc with line := .holdoff, scanPos := p, scanCounter := c } }
    (l 23 0 15).flc.scanCounter ≠ 0 ∧ (l 23 0 15).flc.alert = none ∧
      (∀ m, ¬ (((l 23 0 15).fieldModule m).state = .present ∧ ((l 23 0 15).fieldModule m).pendingRoute ≠ none)) ∧
      (0 : ModuleId) ≤ 23 ∧ (∀ n, (0 : ModuleId) ≤ n → n < 23 → ((l 23 0 15).fieldModule n).state = .absent) ∧
      ((l 23 0 15).fieldModule 23).state ≠ .absent ∧
      (∀ n, (23 : ModuleId) ≤ n → ((l 0 23 15).fieldModule n).state = .absent) ∧ 15 ≤ (l 0 23 15).flc.scanCounter ∧
      (l 22 23 14).flc.scanCounter < 15 ∧ (∀ n, n < (22 : ModuleId) → ((l 22 23 14).fieldModule n).state = .absent) ∧
      ((l 22 23 14).fieldModule 22).state ≠ .absent ∧
      (∀ n, (run.fieldModule n).state = .absent) := by decide +kernel

/-! ## Fields that a record does not hold, and the store's sum -/

/-- A live TONE page shows no prelude. -/
theorem test_tone_page_shows_no_prelude :
    encPrelude { Page.ended 1 with state := .playing, kind := .tone, source := .tone 3 1 } = [0xFF, 0xFF, 0, 0] ∧
      encPrelude { Page.ended 1 with kind := .voice, preludeChannel := 3, preludeTone := 1, preludeTicks := 300 } =
        [3, 1, 1, 44] := by decide

/-- A passed overflow deadline shows 0 ticks however long ago it passed; one that has not shows what remains. -/
theorem test_passed_overflow_shows_zero :
    let d : Call := { Call.freed 1 with entryTick := 100, overflowDl := some 600 }
    encOverflow 400 d = [0, 200] ∧ encOverflow 600 d = [0, 0] ∧ encOverflow 0x90000000 d = [0, 0] := by decide

/-- The 16-bit sum counts every byte modulo 65536. -/
theorem test_sum16 : sum16 (List.replicate 258 0xFF) = 254 := by decide +kernel

/-- The worked example of 10.5: the cold load after a save cut short finds the bad sum. -/
theorem test_power_fails_in_a_save :
    (beginSave run).cs.coldLoad.state = .invalid ∧ (beginSave run).cs.coldLoad.count = 0 := by
  rw [Cs.coldLoad_bad (beginSave_bad run)]
  exact ⟨rfl, rfl⟩

end Sys2Proof.Machine.Tests
end

section
/-!
PROOFS. What a received request comes to, and the queries (O31, O32): the short ones read one record, the long ones one part of it.
-/

namespace Sys2Proof.Machine

/-! ## Requests that the part takes -/

/-- A received request that its owner takes leaves the owner's state with the OK reply. -/
theorem received_taken {s t : State} {h : Header} {n : Nat} {kind : Byte} {lengths : List Nat} {owner : State → Answer}
    {fields : List Byte} (hr : received s h n) (hl : n ∈ lengths) (ho : owner (framerHunt s) = .ok t fields) :
    (.next (request s kind lengths h owner) : Result) = .next (replied t kind h .ok fields) :=
  congrArg _ (request_taken ((intakeOf_hunt _ hr.1).trans hr.2.1) (hr.2.2 ▸ hl) ho)

/-- A received request that its owner refuses changes nothing but the link. -/
theorem received_refused {s : State} {h : Header} {n : Nat} {kind : Byte} {lengths : List Nat} {owner : State → Answer}
    {code : Code} (hr : received s h n) (hl : n ∈ lengths) (ho : owner (framerHunt s) = .refuse code) :
    (.next (request s kind lengths h owner) : Result) = .next (replied (framerHunt s) kind h code []) :=
  congrArg _ (request_refused ((intakeOf_hunt _ hr.1).trans hr.2.1) (hr.2.2 ▸ hl) ho)

@[simp] theorem replied_station (t : State) (kind : Byte) (h : Header) (code : Code) (fields : List Byte) (y : StationId) :
    (replied t kind h code fields).station y = t.station y := by simp [replied]
@[simp] theorem replied_call (t : State) (kind : Byte) (h : Header) (code : Code) (fields : List Byte) (d : CallId) :
    (replied t kind h code fields).call d = t.call d := by simp [replied]
@[simp] theorem replied_group (t : State) (kind : Byte) (h : Header) (code : Code) (fields : List Byte) (g : GroupId) :
    (replied t kind h code fields).group g = t.group g := by simp [replied]
@[simp] theorem replied_pickup (t : State) (kind : Byte) (h : Header) (code : Code) (fields : List Byte) (p : PickupId) :
    (replied t kind h code fields).pickup p = t.pickup p := by simp [replied]
@[simp] theorem replied_sct (t : State) (kind : Byte) (h : Header) (code : Code) (fields : List Byte) :
    (replied t kind h code fields).sct = t.sct := by simp [replied]
@[simp] theorem replied_de (t : State) (kind : Byte) (h : Header) (code : Code) (fields : List Byte) :
    (replied t kind h code fields).de = t.de := by simp [replied]
@[simp] theorem replied_pdir (t : State) (kind : Byte) (h : Header) (code : Code) (fields : List Byte) :
    (replied t kind h code fields).pdir = t.pdir := by simp [replied]
@[simp] theorem replied_pgc (t : State) (kind : Byte) (h : Header) (code : Code) (fields : List Byte) :
    (replied t kind h code fields).pgc = t.pgc := by simp [replied]
@[simp] theorem replied_ag (t : State) (kind : Byte) (h : Header) (code : Code) (fields : List Byte) :
    (replied t kind h code fields).ag = t.ag := by simp [replied]
@[simp] theorem replied_flc (t : State) (kind : Byte) (h : Header) (code : Code) (fields : List Byte) :
    (replied t kind h code fields).flc = t.flc := by simp [replied]
@[simp] theorem replied_cs (t : State) (kind : Byte) (h : Header) (code : Code) (fields : List Byte) :
    (replied t kind h code fields).cs = t.cs := by simp [replied]

/-! ## Short queries -/

/-- Settles O31: the owner of each query reads the record that the number names, and only PAGE GROUP QUERY changes one. -/
theorem shortQueriesReadTheirRecords : Obligations.ShortQueriesReadTheirRecords := by
  unfold Obligations.ShortQueriesReadTheirRecords
  intro h s
  refine ⟨fun station x hr hx => ?_, fun n hr => ⟨?_, ?_, ?_, ?_, ?_, ?_, ?_⟩⟩
  · exact received_taken hr (by simp) (by simp only [stationQueryOwner, hx]; rfl)
  · intro o ho
    exact received_taken hr (by simp) (by simp only [orbitQueryOwner, ho]; rfl)
  · intro k hk
    exact received_taken hr (by simp) (by simp only [classQueryOwner, hk]; rfl)
  · intro b hb
    exact received_taken hr (by simp) (by simp only [busQueryOwner, hb]; rfl)
  · intro k hk
    exact received_taken hr (by simp) (by simp only [alertQueryOwner, hk]; rfl)
  · intro m hm
    exact received_taken hr (by simp) (by simp only [moduleQueryOwner, hm]; rfl)
  · intro z hz
    exact received_taken hr (by simp) (by simp only [zoneQueryOwner, hz]; rfl)
  · intro g hg
    exact received_taken hr (by simp) (by simp only [pageGroupQueryOwner, hg]; rfl)

/-! ## Long queries -/

/-- The part number that a long query names: 0 when its body is the record number alone, else the part byte. -/
theorem partNumber_received {s : State} {h : Header} {part : Byte} {k : Nat}
    (hk : (received s h 1 ∧ k = 0) ∨ (received s h 2 ∧ k = part.toNat)) : partNumber h part = k := by
  unfold partNumber
  rcases hk with ⟨⟨_, _, hl⟩, rfl⟩ | ⟨⟨_, _, hl⟩, rfl⟩
  · rw [if_neg fun e => by simp [e] at hl]
  · rw [if_pos (BitVec.eq_of_toNat_eq hl)]

/-- A long query whose owner answers one part of some fields: the part comes back when the record has it, and BAD VALUE when it
has not. -/
theorem longQuery_part {s : State} {h : Header} {part kind : Byte} {k : Nat} {owner : State → Answer} {fields : List (List Byte)}
    (hk : (received s h 1 ∧ k = 0) ∨ (received s h 2 ∧ k = part.toNat))
    (ho : owner (framerHunt s) = partAnswer (framerHunt s) h part fields) :
    (∀ bs, partFields fields k = some bs →
      (.next (request s kind [1, 2] h owner) : Result) = .next (replied (framerHunt s) kind h .ok bs)) ∧
    (partFields fields k = none →
      (.next (request s kind [1, 2] h owner) : Result) = .next (replied (framerHunt s) kind h .badValue [])) := by
  have hp := partNumber_received hk
  obtain ⟨n, hr, hn⟩ : ∃ n, received s h n ∧ n ∈ [1, 2] := by
    rcases hk with ⟨hr, _⟩ | ⟨hr, _⟩
    · exact ⟨1, hr, by simp⟩
    · exact ⟨2, hr, by simp⟩
  constructor
  · intro bs hbs
    exact received_taken hr hn (by rw [ho, partAnswer, hp, hbs])
  · intro hno
    exact received_refused hr hn (by rw [ho, partAnswer, hp, hno])

/-- No part is longer than 55 bytes when neither the part begun nor any field is. -/
theorem packParts_le (fields : List (List Byte)) (part : List Byte) (hp : part.length ≤ 55)
    (hf : ∀ f ∈ fields, f.length ≤ 55) : ∀ p ∈ packParts part fields, p.length ≤ 55 := by
  induction fields generalizing part with
  | nil => simpa [packParts] using hp
  | cons f fs ih =>
    rw [List.forall_mem_cons] at hf
    unfold packParts
    split
    · rename_i hle
      exact ih _ (by simpa using hle) hf.2
    · rw [List.forall_mem_cons]
      exact ⟨hp, ih f hf.1 hf.2⟩

/-- The parts, put together again, are the part begun and the fields in their order. -/
theorem packParts_flatten (fields : List (List Byte)) (part : List Byte) :
    (packParts part fields).flatten = part ++ fields.flatten := by
  induction fields generalizing part with
  | nil => simp [packParts]
  | cons f fs ih => unfold packParts; split <;> simp [ih]

/-- Settles O32: the four owners answer one part of their fields, and the packing of the parts by induction on the fields. -/
theorem longQueriesReadTheirParts : Obligations.LongQueriesReadTheirParts := by
  unfold Obligations.LongQueriesReadTheirParts
  refine ⟨fun h n part s k hk => ⟨?_, ?_, ?_, ?_⟩, fun fields hf => ⟨packParts_le fields [] (by simp) hf, ?_⟩⟩
  · intro c hc
    exact longQuery_part (kind := 0x11) (owner := callQueryOwner h n part) (fields := callQueryFields s c) hk
      (by rw [callQueryOwner, hc]; rfl)
  · intro g hg
    exact longQuery_part (kind := 0x12) (owner := groupQueryOwner h n part) (fields := groupQueryFields s g) hk
      (by rw [groupQueryOwner, hg]; rfl)
  · intro p hp
    exact longQuery_part (kind := 0x13) (owner := pickupGroupQueryOwner h n part) (fields := pickupGroupFields s p) hk
      (by rw [pickupGroupQueryOwner, hp]; rfl)
  · intro p hp
    exact longQuery_part (kind := 0x19) (owner := pageQueryOwner h n part) (fields := pageFields s p) hk
      (by rw [pageQueryOwner, hp]; rfl)
  · simpa using packParts_flatten fields []

end Sys2Proof.Machine
end

section
/-!
PROOFS. The station events (O33, O35, O36): one lemma for each case of an event's rule, and the settled statements put together from them.
-/

namespace Sys2Proof.Machine

/-! ## Station events -/

theorem framerHunt_running {s : State} (hm : s.cl.mode = .run) : (framerHunt s).running = true := by
  simp [State.running, framerHunt, State.modCl, hm]

theorem readFin_lt {n x : Nat} (h : x < n) : readFin n x = some ⟨x, h⟩ := dif_pos h

/-- A STATION EVENT in RUN whose rule takes it: the rule's state, with the station and the call it answered in the reply. -/
theorem stationEvent_taken {s : State} {h : Header} {station : Half} {x : StationId} {event : Byte}
    {act : State → StationId → Except Code EventDone} {t : State} {c : Option CallId} (hr : received s h 3) (hx : readStation station = some x)
    (hm : s.cl.mode = .run) (he : event.toNat < 6) (ha : act (framerHunt s) x = .ok { state := t, answered := c }) :
    (.next (request s 0x30 [3] h (stationEventOwner station event act)) : Result) =
      .next (replied t 0x30 h .ok (eventFields t x c)) :=
  received_taken hr (by simp) (by
    simp only [stationEventOwner, hx, readFin_lt he, framerHunt_running hm, ha, not_true_eq_false, if_false]; rfl)

/-- A STATION EVENT in RUN whose rule refuses it. -/
theorem stationEvent_refused {s : State} {h : Header} {station : Half} {x : StationId} {event : Byte}
    {act : State → StationId → Except Code EventDone} {c : Code} (hr : received s h 3) (hx : readStation station = some x)
    (hm : s.cl.mode = .run) (he : event.toNat < 6) (ha : act (framerHunt s) x = .error c) :
    (.next (request s 0x30 [3] h (stationEventOwner station event act)) : Result) =
      .next (replied (framerHunt s) 0x30 h c []) :=
  received_refused hr (by simp) (by
    simp only [stationEventOwner, hx, readFin_lt he, framerHunt_running hm, ha, not_true_eq_false, if_false])

/-- A station that is not available is not offered anything. -/
theorem offer_unavailable {s : State} {x : StationId} (h : (s.station x).available = false) : offer s x = s := by
  simp [offer, h]

theorem enterIdle_station (s : State) (x : StationId) :
    (enterIdle s x).station x =
      { s.station x with state := .idle, call := none, wrapupDl := none, idleSince := s.now } := State.modStation_same ..

theorem serviceOnAct_out {s : State} {x : StationId} (hs : (s.station x).state = .out) :
    serviceOnAct s x = .ok { state := offer (enterIdle s x) x, answered := none } := if_pos hs

theorem serviceOnAct_refused {s : State} {x : StationId} (hs : (s.station x).state ≠ .out) :
    serviceOnAct s x = .error .wrongState := if_neg hs

/-- Settles O36: with do-not-disturb on, the station that enters IDLE is not available, so its offer does nothing. -/
theorem serviceOnTakesTheStationToIdle : Obligations.ServiceOnTakesTheStationToIdle := by
  unfold Obligations.ServiceOnTakesTheStationToIdle
  intro h station s x hr hx hm t
  have on (hs : (s.station x).state = .out) :
      exec (.serviceOn h station 3) s = .next (replied (offer t x) 0x30 h .ok (eventFields (offer t x) x none)) :=
    stationEvent_taken hr hx hm (by decide) (serviceOnAct_out (s := framerHunt s) hs)
  refine ⟨fun hs hd => ?_, fun hs _ => ⟨_, on hs⟩, fun hs => ?_⟩
  · have ht : offer t x = t := offer_unavailable (by
      rw [show t.station x = _ from enterIdle_station (framerHunt s) x]; simp [Station.available, hd])
    exact ⟨_, ht ▸ on hs⟩
  · exact stationEvent_refused hr hx hm (by decide) (serviceOnAct_refused (s := framerHunt s) hs)

/-! ### OFF HOOK and ON HOOK -/

theorem offHookAct_idle {s : State} {x : StationId} (hs : (s.station x).state = .idle) :
    offHookAct s x = .ok { state := s.modStation x fun t => { t with state := .busy }, answered := none } := by
  simp only [offHookAct, hs]

theorem offHookAct_wrapup {s : State} {x : StationId} (hs : (s.station x).state = .wrapup) :
    offHookAct s x = .ok { state := s.modStation x fun t => { t with state := .busy, wrapupDl := none }, answered := none } := by
  simp only [offHookAct, hs]

theorem offHookAct_ringing {s : State} {x : StationId} {c : CallId} (hs : (s.station x).state = .ringing)
    (hc : (s.station x).call = some c) : offHookAct s x = .ok { state := answerCall s c x, answered := some c } := by
  simp only [offHookAct, hs, hc]

theorem offHookAct_refused {s : State} {x : StationId}
    (hs : (s.station x).state = .busy ∨ (s.station x).state = .talking ∨ (s.station x).state = .out) :
    offHookAct s x = .error .wrongState := by
  rcases hs with hs | hs | hs <;> simp only [offHookAct, hs]

theorem onHookAct_talking {s : State} {x : StationId} {c : CallId} (hs : (s.station x).state = .talking)
    (hc : (s.station x).call = some c) :
    onHookAct s x = .ok { state := freeCall s c (wrapupOf s c), answered := none } := by
  simp only [onHookAct, hs, hc]

theorem onHookAct_busy {s : State} {x : StationId} (hs : (s.station x).state = .busy) :
    onHookAct s x = .ok { state := offer (endVoicePage (enterIdle s x) x) x, answered := none } := by
  simp only [onHookAct, hs]

theorem onHookAct_refused {s : State} {x : StationId}
    (hs : (s.station x).state = .ringing ∨ (s.station x).state = .idle ∨ (s.station x).state = .wrapup ∨
      (s.station x).state = .out) : onHookAct s x = .error .wrongState := by
  rcases hs with hs | hs | hs | hs <;> simp only [onHookAct, hs]

theorem wrapupOf_group {s : State} {c : CallId} {g : GroupId} (hk : (s.call c).kind = .group)
    (hg : (s.call c).current = some g) : wrapupOf s c = .wrapup (s.group g).cfg.wrapup := by
  simp only [wrapupOf, hk, hg]

theorem wrapupOf_direct {s : State} {c : CallId} (hk : (s.call c).kind = .direct) : wrapupOf s c = .idle := by
  simp only [wrapupOf, hk]

theorem endVoicePage_none {s : State} {x : StationId} (h : (s.station x).voicePage = none) : endVoicePage s x = s := by
  simp only [endVoicePage, h]

theorem endVoicePage_some {s : State} {x : StationId} {p : PageId} (h : (s.station x).voicePage = some p) :
    endVoicePage s x = endPage s p .released := by
  simp only [endVoicePage, h]

/-- A station that enters IDLE keeps its voice page. -/
theorem enterIdle_voicePage (s : State) (x : StationId) : ((enterIdle s x).station x).voicePage = (s.station x).voicePage := by
  rw [enterIdle_station]

/-- Settles O33: one case of OFF HOOK's and of ON HOOK's rule for each state of the station. -/
theorem hookEventsMoveTheStation : Obligations.HookEventsMoveTheStation := by
  unfold Obligations.HookEventsMoveTheStation
  refine ⟨fun h station s x hr hx hm => ⟨fun hs => ?_, fun hs => ?_, fun c hs hc => ?_, fun hs => ?_⟩,
    fun h station s x hr hx hm => ⟨fun c g hs hc hk hg => ?_, fun c hs hc hk => ?_, fun hs hv => ?_, fun p hs hv => ?_,
      fun hs => ?_⟩⟩
  · exact stationEvent_taken hr hx hm (by decide) (offHookAct_idle (s := framerHunt s) hs)
  · exact stationEvent_taken hr hx hm (by decide) (offHookAct_wrapup (s := framerHunt s) hs)
  · exact stationEvent_taken hr hx hm (by decide) (offHookAct_ringing (s := framerHunt s) hs hc)
  · exact stationEvent_refused hr hx hm (by decide) (offHookAct_refused (s := framerHunt s) hs)
  · have ha := onHookAct_talking (s := framerHunt s) hs hc
    rw [wrapupOf_group (s := framerHunt s) hk hg, framerHunt_group] at ha
    exact stationEvent_taken hr hx hm (by decide) ha
  · have ha := onHookAct_talking (s := framerHunt s) hs hc
    rw [wrapupOf_direct (s := framerHunt s) hk] at ha
    exact stationEvent_taken hr hx hm (by decide) ha
  · have ha := onHookAct_busy (s := framerHunt s) hs
    rw [endVoicePage_none (by rw [enterIdle_voicePage]; exact hv)] at ha
    exact stationEvent_taken hr hx hm (by decide) ha
  · have ha := onHookAct_busy (s := framerHunt s) hs
    rw [endVoicePage_some (by rw [enterIdle_voicePage]; exact hv)] at ha
    exact stationEvent_taken hr hx hm (by decide) ha
  · exact stationEvent_refused hr hx hm (by decide) (onHookAct_refused (s := framerHunt s) hs)

/-! ### SERVICE OFF and do-not-disturb -/

theorem serviceOffAct_out {s : State} {x : StationId} (hs : (s.station x).state = .out) :
    serviceOffAct s x = .error .wrongState := by simp only [serviceOffAct, hs]

theorem serviceOffAct_idle {s : State} {x : StationId}
    (hs : (s.station x).state = .idle ∨ (s.station x).state = .wrapup ∨
      ((s.station x).state = .busy ∧ (s.station x).voicePage = none)) :
    serviceOffAct s x = .ok { state := goOut s x, answered := none } := by
  rcases hs with hs | hs | ⟨hs, hv⟩
  · simp only [serviceOffAct, hs]
  · simp only [serviceOffAct, hs]
  · simp only [serviceOffAct, hs, endVoicePage_none hv]

/-- SERVICE OFF in any state but OUT ends with the station going OUT. -/
theorem serviceOffAct_goes_out {s : State} {x : StationId} (hs : (s.station x).state ≠ .out) :
    ∃ u, serviceOffAct s x = .ok { state := goOut u x, answered := none } := by
  unfold serviceOffAct
  split
  · contradiction
  all_goals exact ⟨_, rfl⟩

theorem goOut_station (s : State) (x : StationId) : ((goOut s x).station x).state = .out := by simp [goOut]

theorem dndOffAct_on {s : State} {x : StationId} (hd : (s.station x).dnd = true) :
    dndOffAct s x = .ok { state := offer (s.modStation x fun t => { t with dnd := false }) x, answered := none } := if_pos hd

theorem dndOffAct_off {s : State} {x : StationId} (hd : (s.station x).dnd = false) :
    dndOffAct s x = .ok { state := s, answered := none } := if_neg (by simp [hd])

/-- Settles O35: every branch of SERVICE OFF but the refusal in OUT ends in `goOut`, and only an IDLE station becomes available
when its do-not-disturb flag goes off. -/
theorem serviceOffAndDoNotDisturb : Obligations.ServiceOffAndDoNotDisturb := by
  unfold Obligations.ServiceOffAndDoNotDisturb
  intro h station s x hr hx hm
  have refused (hs : (s.station x).state = .out) :
      exec (.serviceOff h station 2) s = .next (replied (framerHunt s) 0x30 h .wrongState []) :=
    stationEvent_refused hr hx hm (by decide) (serviceOffAct_out (s := framerHunt s) hs)
  refine ⟨refused, fun hs => ?_, ?_, ?_, fun hd => ?_, fun hd hs => ?_, fun hd hs => ?_⟩
  · exact stationEvent_taken hr hx hm (by decide) (serviceOffAct_idle (s := framerHunt s) hs)
  · by_cases hs : (s.station x).state = .out
    · exact ⟨_, refused hs, by simpa using hs⟩
    · obtain ⟨u, hu⟩ := serviceOffAct_goes_out (s := framerHunt s) hs
      exact ⟨_, stationEvent_taken hr hx hm (by decide) hu, by simpa using goOut_station u x⟩
  · exact stationEvent_taken (act := dndOnAct) hr hx hm (by decide) rfl
  · exact stationEvent_taken hr hx hm (by decide) (dndOffAct_off (s := framerHunt s) hd)
  · have ha := dndOffAct_on (s := framerHunt s) hd
    rw [offer_unavailable (by simp [Station.available, hs])] at ha
    exact stationEvent_taken hr hx hm (by decide) ha
  · exact stationEvent_taken hr hx hm (by decide) (dndOffAct_on (s := framerHunt s) hd)

end Sys2Proof.Machine
end

section
/-!
PROOFS. The tick and the cadences (O22), and STATION SET (O23).
-/

namespace Sys2Proof.Machine

/-! ## The tick and the cadences -/

theorem changeChannel_same (s : State) (k : ChannelId) (f : Channel → Channel) :
    (changeChannel s k f).channel k = f (s.channel k) := by
  unfold changeChannel; dsimp only; split
  · simp
  · exact State.modChannel_same s k f

theorem changeChannel_ne (s : State) {k j : ChannelId} (f : Channel → Channel) (hj : j ≠ k) :
    (changeChannel s k f).channel j = s.channel j := by
  unfold changeChannel; dsimp only; split
  · exact State.modChannel_ne s f hj
  · exact State.modChannel_ne s f hj

/-- A change of a channel reaches the field line exactly when the output changes. -/
theorem changeChannel_flc (s : State) (k : ChannelId) (f : Channel → Channel) :
    (changeChannel s k f).flc =
      if (f (s.channel k)).output = (s.channel k).output then s.flc
      else { s.flc with alert := some (outputWord (changeChannel s k f)) } := by
  unfold changeChannel; dsimp only; rw [State.modChannel_same]; split <;> rfl

/-- A change of a channel reaches no block but the Alert Generator and the field line. -/
theorem changeChannel_others (s : State) (k : ChannelId) (f : Channel → Channel) :
    let t := changeChannel s k f
    t.sct = s.sct ∧ t.de = s.de ∧ t.ppu = s.ppu ∧ t.pdir = s.pdir ∧ t.pgc = s.pgc ∧ t.cs = s.cs := by
  unfold changeChannel; dsimp only; split <;> exact ⟨rfl, rfl, rfl, rfl, rfl, rfl⟩

theorem outputWord_finish (s : State) : outputWord (finish s) = outputWord s := by simp [outputWord]

/-- At the period's end with no pending slot the active slot begins again. -/
theorem Channel.advance_end {c : Channel} (now : Tick) (he : c.cadence.period ≤ c.phase + 1) (hp : c.pending = false) :
    c.advance now =
      { c with phase := 0, stepTick := now, output := decide (0 < (c.slot c.active).on) } := by
  rw [Channel.advance, if_pos he]
  simp [Channel.beginPeriod, hp, Channel.cadence]

/-- At the period's end a pending slot becomes active. -/
theorem Channel.advance_switch {c : Channel} (now : Tick) (he : c.cadence.period ≤ c.phase + 1) (hp : c.pending = true) :
    c.advance now =
      { c with phase := 0, stepTick := now, active := c.active.other, pending := false,
               output := decide (0 < (c.slot c.active.other).on) } := by
  rw [Channel.advance, if_pos he]
  simp only [Channel.beginPeriod, hp, if_true]
  cases c.active <;> rfl

/-- Below the period's end the phase rises. -/
theorem Channel.advance_within {c : Channel} (now : Tick) (he : c.phase + 1 < c.cadence.period) :
    c.advance now =
      { c with phase := c.phase + 1, stepTick := now, output := decide (c.phase + 1 < c.cadence.on) } := by
  rw [Channel.advance, if_neg (Nat.not_le.mpr he)]

/-- Settles O22: CADENCE ADVANCE is one `changeChannel` by `Channel.advance`, which has a case for the end of the period, with and
without a pending slot, and one below it. -/
theorem theCounterAndTheCadencesAdvance : Obligations.TheCounterAndTheCadencesAdvance := by
  unfold Obligations.TheCounterAndTheCadencesAdvance
  refine ⟨fun s => rfl, fun s k hk => ?_, fun s k hr ht => ?_⟩
  · show execCadenceAdvance k s = _
    unfold execCadenceAdvance
    rw [if_neg]
    rintro ⟨hrun, hstep⟩
    rcases hk with hk | hk
    · simp [hk] at hrun
    · exact hstep hk
  · obtain ⟨hsct, hde, hppu, hpdir, hpgc, hcs⟩ := changeChannel_others s k fun c => c.advance s.now
    have hsame := changeChannel_same s k fun c => c.advance s.now
    have hflc := changeChannel_flc s k fun c => c.advance s.now
    refine ⟨finish (changeChannel s k fun c => c.advance s.now), congrArg _ (if_pos ⟨hr, ht⟩), fun j hj => ?_, ?_, ?_, ?_, ?_, ?_,
      ?_, ?_, ?_, ?_, ?_, ?_⟩
    · rw [finish_channel, changeChannel_ne _ _ hj]
    · intro he hp
      rw [finish_channel, hsame]; exact Channel.advance_end _ he hp
    · intro he hp
      rw [finish_channel, hsame]; exact Channel.advance_switch _ he hp
    · intro he
      rw [finish_channel, hsame]; exact Channel.advance_within _ he
    · intro ho
      rw [finish_channel, hsame] at ho
      rw [finish_flc, hflc, if_pos ho]
    · intro ho
      rw [finish_channel, hsame] at ho
      rw [finish_flc, outputWord_finish, hflc, if_neg ho]
    all_goals simp only [finish_sct, finish_de, finish_ppu, finish_pdir, finish_pgc, finish_cs, *]

/-! ## STATION SET -/

/-- Without a ring to move the station's record alone is written. -/
theorem storeStation_still {s : State} {x : StationId} {v : StationCfg}
    (h : (s.station x).state ≠ .ringing ∨ (s.station x).cfg.pickup = v.pickup) :
    storeStation s x v = s.modStation x fun r => { r with cfg := v } := by
  unfold storeStation moveRing
  rw [State.modStation_same]
  split
  · rename_i hs _
    rcases h with h | h
    · exact absurd hs h
    · exact if_pos h
  · rfl

/-- A RINGING station's call leaves the old pickup group's ring list and enters the new one's. -/
theorem storeStation_moves {s : State} {x : StationId} {v : StationCfg} {c : CallId} (hs : (s.station x).state = .ringing)
    (hc : (s.station x).call = some c) (hp : (s.station x).cfg.pickup ≠ v.pickup) :
    storeStation s x v =
      (let t := s.modStation x fun r => { r with cfg := v }
       let u := match (s.station x).cfg.pickup with
         | some p => leaveRingList t c p
         | none => t
       match v.pickup with
       | some p => enterRingList u c p
       | none => u) := by
  unfold storeStation moveRing
  rw [State.modStation_same]
  simp only [hs, hc, if_neg hp] <;> rfl

/-- A ring list entered while the counter stands at `n`. -/
theorem enterRingList_at {s : State} {n : Tick} {c : CallId} {p : PickupId} (hn : s.now = n) :
    enterRingList s c p = s.modPickup p fun r =>
      if r.ring.any (fun e => e.call == c) then r
      else { r with ring := insertBy (ringPrecedes n) { call := c, start := n } r.ring } := by
  rw [enterRingList, hn]

theorem stationSetOwner_ok {s : State} {station : Half} {cls pickup coverage service : Byte} {label : Half} {x : StationId}
    {v : StationCfg} (hx : readStation station = some x) (hv : readStationCfg cls pickup coverage service label = some v)
    (hs : s.isSaving = false) :
    stationSetOwner station cls pickup coverage service label (framerHunt s) = .ok (storeStation (framerHunt s) x v) [] := by
  have hs' : (framerHunt s).isSaving = false := hs
  simp [stationSetOwner, hx, hv, hs']

/-- Settles O23: the owner's `storeStation` moves a ring only for a RINGING station whose pickup group changes. -/
theorem stationSetStoresTheFields : Obligations.StationSetStoresTheFields := by
  unfold Obligations.StationSetStoresTheFields
  intro h station cls pickup coverage service label s x v hr hx hv hsave t
  have done : exec (.stationSet h station cls pickup coverage service label) s =
      .next (replied (storeStation (framerHunt s) x v) 0x01 h .ok []) :=
    received_taken hr (by simp) (stationSetOwner_ok hx hv hsave)
  refine ⟨fun hst => ?_, fun c hst hc hp => ?_⟩
  · rw [done, storeStation_still (s := framerHunt s) hst]
  · rw [done, storeStation_moves (s := framerHunt s) hst hc hp]
    refine congrArg (fun u : State => (.next (replied u 0x01 h .ok []) : Result)) ?_
    rw [framerHunt_station]
    cases (s.station x).cfg.pickup with
    | none => cases v.pickup <;> rfl
    | some old =>
      cases v.pickup with
      | none => rfl
      | some new => exact enterRingList_at (leaveRingList_quiet t c old).tick

end Sys2Proof.Machine
end

section
/-!
PROOFS. The refusals of the frame check, of SETUP and of a running save (O19), and the deadlines of stations and direct calls (O40).
-/

namespace Sys2Proof.Machine

/-! ## Refused requests -/

/-- The legal lengths of a request's kind hold the length of a request of a legal length. -/
theorem legalLength_mem {i : Instr} {kind : Byte} {h : Header} {ls : List Nat} (hr : i.request? = some (kind, h))
    (hk : requestLengths kind = some ls) (hl : i.legalLength = true) : h.length.toNat ∈ ls := by
  simpa [Instr.legalLength, hr, hk] using hl

/-- Every request but STATUS is one `request` with the lengths that table 11.2 allows for its kind. -/
theorem exec_request_lengths {i : Instr} {kind : Byte} {h : Header} (hr : i.request? = some (kind, h))
    (hu : ∀ h' k, i ≠ .unknownRequest h' k) :
    (∃ ls owner, requestLengths kind = some ls ∧ ∀ s, exec i s = .next (request s kind ls h owner)) ∨
      (i = .status h ∧ kind = 0x20) := by
  cases i <;> simp only [Instr.request?, Option.some.injEq, Prod.mk.injEq, reduceCtorEq] at hr
  case unknownRequest h' k => exact absurd rfl (hu h' k)
  case status => obtain ⟨rfl, rfl⟩ := hr; exact .inr ⟨rfl, rfl⟩
  all_goals
    obtain ⟨rfl, rfl⟩ := hr
    exact .inl ⟨_, _, rfl, fun s => rfl⟩

/-- STATUS with a body is one `request`, which it fails. -/
theorem exec_status_body {h : Header} (s : State) (hl : h.length.toNat ∉ [0]) :
    exec (.status h) s = .next (request s 0x20 [0] h statusOwner) := by
  show execStatus h s = _
  unfold execStatus
  rw [if_neg fun hc => hl (by simp [hc.2])]

/-- A request of a length that its kind does not allow is refused BAD LENGTH. -/
theorem exec_badLength {i : Instr} {kind : Byte} {h : Header} {lengths : List Nat} {s : State}
    (hr : i.request? = some (kind, h)) (hu : ∀ h' k, i ≠ .unknownRequest h' k) (hk : requestLengths kind = some lengths)
    (hl : h.length.toNat ∉ lengths) (hs : received s h h.length.toNat) :
    exec i s = .next (replied (framerHunt s) kind h .badLength []) := by
  have hi : intakeOf s [kind, h.length, h.tag] = .checked := (intakeOf_hunt _ hs.1).trans hs.2.1
  rcases exec_request_lengths hr hu with ⟨ls, owner, hls, he⟩ | ⟨rfl, rfl⟩
  · obtain rfl : ls = lengths := Option.some.inj (hls.symm.trans hk)
    rw [he, request_badLength kind owner hi hl]
  · obtain rfl : [0] = lengths := Option.some.inj hk
    rw [exec_status_body s hl, request_badLength _ _ hi hl]

/-- A STATION EVENT is one `request` whose owner is `stationEventOwner`. -/
theorem exec_stationEvent {i : Instr} {kind : Byte} {h : Header} {x : Half} {e : Byte} (hr : i.request? = some (kind, h))
    (he : stationEvent? i = some (x, e)) :
    ∃ act, requestLengths kind = some [3] ∧ ∀ s, exec i s = .next (request s kind [3] h (stationEventOwner x e act)) := by
  cases i <;> simp only [stationEvent?, Option.some.injEq, Prod.mk.injEq, reduceCtorEq] at he
  all_goals
    obtain ⟨rfl, rfl⟩ := Prod.mk.inj (Option.some.inj hr)
    obtain ⟨rfl, rfl⟩ := he
    exact ⟨_, rfl, fun s => rfl⟩

theorem loginCheck_setup {s : State} (hn : s.running = false) (x : Half) (g : Byte) : loginCheck s x g = .error .notRunning := by
  simp [loginCheck, hn]

theorem summonCheck_setup {s : State} (hn : s.running = false) (x : Half) (g : Byte) : summonCheck s x g = .error .notRunning := by
  simp [summonCheck, hn]

/-- Every operational request but STATION EVENT is one `request` whose owner looks at the run mode first. -/
theorem exec_operational {i : Instr} {kind : Byte} {h : Header} (hr : i.request? = some (kind, h))
    (ho : isOperational i = true) (he : stationEvent? i = none) :
    ∃ ls owner, requestLengths kind = some ls ∧ (∀ s, exec i s = .next (request s kind ls h owner)) ∧
      ∀ s : State, s.running = false → owner s = .refuse .notRunning := by
  cases i <;> simp only [isOperational, stationEvent?, reduceCtorEq, Bool.false_eq_true] at ho he
  all_goals obtain ⟨rfl, rfl⟩ := Prod.mk.inj (Option.some.inj hr)
  case memberLogin => exact ⟨_, _, rfl, fun s => rfl, fun s hn => by simp only [memberLoginOwner, loginCheck_setup hn]⟩
  case memberLogout => exact ⟨_, _, rfl, fun s => rfl, fun s hn => by simp only [memberLogoutOwner, loginCheck_setup hn]⟩
  case summon => exact ⟨_, _, rfl, fun s => rfl, fun s hn => by simp only [summonOwner, summonCheck_setup hn]⟩
  case summonHush => exact ⟨_, _, rfl, fun s => rfl, fun s hn => by simp only [summonHushOwner, summonCheck_setup hn]⟩
  all_goals exact ⟨_, _, rfl, fun s => rfl, fun s hn => if_pos (by simp [hn])⟩

/-- Every configuration request is one `request` whose owner, while a save runs, makes the range checks and then refuses. -/
theorem exec_configuration {i : Instr} {kind : Byte} {h : Header} (hr : i.request? = some (kind, h))
    (hc : isConfiguration i = true) :
    ∃ ls owner, requestLengths kind = some ls ∧ (∀ s, exec i s = .next (request s kind ls h owner)) ∧
      ∀ s : State, s.isSaving = true → owner s = savingRefusal (configurationInRange s i) := by
  cases i <;> simp only [isConfiguration, Bool.false_eq_true] at hc
  all_goals
    obtain ⟨rfl, rfl⟩ := Prod.mk.inj (Option.some.inj hr)
    refine ⟨_, _, rfl, fun s => rfl, fun s hs => ?_⟩
  case stationSet => exact stationSetOwner_saving s hs _ ..
  case groupSet => exact groupSetOwner_saving s hs _ ..
  case memberAdd => exact memberAddOwner_saving s hs _ ..
  case memberRemove => exact memberRemoveOwner_saving s hs _ ..
  case announceSet => exact announceSetOwner_saving s hs _ ..
  case beaconSet => exact beaconSetOwner_saving s hs _ ..
  case pickupGroupSet => exact pickupGroupSetOwner_saving s hs _ ..
  case classSet => exact classSetOwner_saving s hs _ ..
  case directorySet => exact directorySetOwner_saving s hs _ ..
  case entrySet => exact entrySetOwner_saving s hs _ ..
  case pageGroupSet => exact pageGroupSetOwner_saving s hs _ ..
  case cadenceSet => exact cadenceSetOwner_saving s hs _ ..
  case moduleSet => exact moduleSetOwner_saving s hs _ ..

theorem configurationInRange_framerHunt (s : State) (i : Instr) :
    configurationInRange (framerHunt s) i = configurationInRange s i := by
  cases i <;> rfl

/-- Settles O19: each family of requests is one `request`, and its owner's first tests refuse. -/
theorem refusedRequestsChangeNothing : Obligations.RefusedRequestsChangeNothing := by
  unfold Obligations.RefusedRequestsChangeNothing
  refine ⟨⟨fun i kind h lengths s hr hu hk hl hs => exec_badLength hr hu hk hl hs, fun h kind s _ hs => ?_⟩,
    fun i kind h s hr hl hs => ⟨fun ho hm => ⟨fun he => ?_, fun x e he => ?_⟩, fun hc hsave => ?_⟩⟩
  · exact received_refused hs (by simp) rfl
  · have hn : (framerHunt s).running = false := by simp [State.running, framerHunt, State.modCl, hm]
    obtain ⟨ls, owner, hls, hex, howner⟩ := exec_operational hr ho he
    rw [hex]
    exact received_refused hs (legalLength_mem hr hls hl) (howner _ hn)
  · have hn : (framerHunt s).running = false := by simp [State.running, framerHunt, State.modCl, hm]
    obtain ⟨act, hls, hex⟩ := exec_stationEvent hr he
    have howner := stationEventOwner_setup x e act (framerHunt s) hn
    rw [hex]
    refine ⟨fun hx he' => ?_, fun hor => ?_⟩
    · rw [if_pos ⟨hx, he'⟩] at howner
      exact received_refused hs (legalLength_mem hr hls hl) howner
    · rw [if_neg (by omega)] at howner
      exact received_refused hs (legalLength_mem hr hls hl) howner
  · obtain ⟨ls, owner, hls, hex, howner⟩ := exec_configuration hr hc
    have hrefuse := howner (framerHunt s) hsave
    rw [configurationInRange_framerHunt] at hrefuse
    rw [hex]
    refine ⟨fun hin => ?_, fun hin => ?_⟩ <;> rw [hin] at hrefuse <;>
      exact received_refused hs (legalLength_mem hr hls hl) hrefuse

/-! ## Deadlines of stations and direct calls -/

theorem coverageStep_none {s : State} {c : CallId} {x : StationId} (hg : (s.station x).cfg.coverage = none) :
    coverageStep s c x = s.modCall c fun d => { d with ringDl := none } := by
  simp only [coverageStep, hg]

theorem coverageStep_some {s : State} {c : CallId} {x : StationId} {g : GroupId} (hg : (s.station x).cfg.coverage = some g) :
    coverageStep s c x = offer (coverTo (ringLeave s c .idle x) c x g) x := by
  simp only [coverageStep, hg]

/-- The due ring deadline of a DIRECT call that rings one station makes the coverage step. -/
theorem execCoverageExpiry_due {s : State} {c : CallId} {x : StationId} (hs : (s.call c).state = .ringing)
    (hk : (s.call c).kind = .direct) (hd : due s.now (s.call c).ringDl = true) (hx : (s.call c).ringing = [x]) :
    execCoverageExpiry c s = .next (finish (coverageStep s c x)) := by
  rw [execCoverageExpiry, if_pos ⟨hs, hk, hd⟩, hx]

/-- Settles O40: each expiry tests its state and its deadline, and then is one operation. -/
theorem wrapupAndCoverageExpire : Obligations.WrapupAndCoverageExpire := by
  unfold Obligations.WrapupAndCoverageExpire
  intro s x c
  refine ⟨fun hs hd => ?_, fun hd => ?_, fun hs hk hd hx => ⟨fun hg => ?_, fun g hg => ?_⟩, fun hd => ?_⟩
  · exact congrArg _ (if_pos ⟨hs, hd⟩)
  · exact congrArg _ (if_neg fun hc => by simp [show due s.now _ = false from hd] at hc)
  · exact (execCoverageExpiry_due hs hk hd hx).trans (by rw [coverageStep_none hg])
  · exact (execCoverageExpiry_due hs hk hd hx).trans (by rw [coverageStep_some hg])
  · exact congrArg _ (if_neg fun hc => by simp [show due s.now _ = false from hd] at hc)

end Sys2Proof.Machine
end

section
/-!
PROOFS. What claims, routes, pages, announcements and beacons leave of the calls, the stations and the groups, and with that what a join
and a leave of a group's queue come to.
-/

namespace Sys2Proof.Machine

/-! ## The blocks that calls live in, and what claims, routes and pages do to them -/

/-- The Station and Call Table, the Distribution Engine and the Pickup and Park Unit. -/
def callSide (s : State) : Sct × De × Ppu := (s.sct, s.de, s.ppu)

theorem callSide_foldl {α : Type} {f : State → α → State} (hf : ∀ s a, callSide (f s a) = callSide s) (l : List α) (s : State) :
    callSide (l.foldl f s) = callSide s := by
  induction l generalizing s with
  | nil => rfl
  | cons a l ih => exact (ih (f s a)).trans (hf s a)

@[simp] theorem callSide_queueReport (s : State) (r : Report) : callSide (queueReport s r) = callSide s := rfl
@[simp] theorem callSide_modPage (s : State) (p : PageId) (f : Page → Page) : callSide (s.modPage p f) = callSide s := rfl
@[simp] theorem callSide_modBus (s : State) (b : BusId) (f : Bus → Bus) : callSide (s.modBus b f) = callSide s := rfl
@[simp] theorem callSide_modZone (s : State) (z : ZoneId) (f : Zone → Zone) : callSide (s.modZone z f) = callSide s := rfl
@[simp] theorem callSide_modPageGroup (s : State) (g : PageGroupId) (f : PageGroup → PageGroup) :
    callSide (s.modPageGroup g f) = callSide s := rfl
@[simp] theorem callSide_pageNotice (s : State) (p : PageId) (e : PageEvent) : callSide (pageNotice s p e) = callSide s := rfl

@[simp] theorem callSide_changeChannel (s : State) (k : ChannelId) (f : Channel → Channel) :
    callSide (changeChannel s k f) = callSide s := by
  obtain ⟨hsct, hde, hppu, _⟩ := changeChannel_others s k f
  rw [callSide, hsct, hde, hppu, callSide]

@[simp] theorem callSide_placeClaim (s : State) (k : ChannelId) (c : ClaimKind) : callSide (placeClaim s k c) = callSide s :=
  callSide_changeChannel ..
@[simp] theorem callSide_dropClaim (s : State) (k : ChannelId) (c : ClaimKind) : callSide (dropClaim s k c) = callSide s :=
  callSide_changeChannel ..

@[simp] theorem callSide_setPendingRoute (s : State) (m : ModuleId) : callSide (setPendingRoute s m) = callSide s := by
  unfold setPendingRoute; split <;> rfl

@[simp] theorem callSide_setRoute (s : State) (z : ZoneId) (r : Setting) : callSide (setRoute s z r) = callSide s := by
  simp [setRoute]

@[simp] theorem callSide_refollow (s : State) (z : ZoneId) : callSide (refollow s z) = callSide s := by
  unfold refollow; dsimp only; split <;> simp

@[simp] theorem callSide_holdPage (s : State) (p : PageId) : callSide (holdPage s p) = callSide s := rfl

@[simp] theorem callSide_resumePage (s : State) (p : PageId) : callSide (resumePage s p) = callSide s := by
  unfold resumePage; split <;> rfl

@[simp] theorem callSide_takeMainSource (s : State) (p : PageId) (b : BusId) : callSide (takeMainSource s p b) = callSide s := by
  unfold takeMainSource; split <;> simp

@[simp] theorem callSide_takeZone (p : PageId) (b : BusId) (s : State) (z : ZoneId) :
    callSide (takeZone p b s z) = callSide s := by
  unfold takeZone
  split
  · simp only [callSide_setRoute, callSide_modPage, callSide_modZone]
    split
    · rfl
    · split <;> simp
  · rfl

@[simp] theorem callSide_claimBeacons (s : State) (p : PageId) : callSide (claimBeacons s p) = callSide s := by
  unfold claimBeacons
  split
  · exact (callSide_foldl callSide_refollow _ _).trans (callSide_foldl (by simp) _ _)
  · rfl

@[simp] theorem callSide_startPage (s : State) (p : PageId) (b : BusId) : callSide (startPage s p b) = callSide s := by
  unfold startPage
  extract_lets s0 s1 s2 s3 s4 s5 r s6 s7 s8 s9
  have h3 : callSide s3 = callSide s := rfl
  have h4 : callSide s4 = callSide s3 := callSide_foldl (callSide_takeZone p b) _ s3
  have h5 : callSide s5 = callSide s := (callSide_claimBeacons s4 p).trans (h4.trans h3)
  clear_value s5
  have h8 : callSide s8 = callSide s5 := by
    show callSide (if _ then _ else _) = _
    split
    · exact (callSide_modPage s7 _ _).trans ((callSide_placeClaim s6 _ _).trans (callSide_modBus s5 _ _))
    · rw [callSide_modPage, callSide_takeMainSource]
  have h9 : callSide s9 = callSide s8 := rfl
  exact (callSide_pageNotice s9 p .started).trans (h9.trans (h8.trans h5))

@[simp] theorem callSide_scanPage (s : State) (p : PageId) : callSide (scanPage s p) = callSide s := by
  unfold scanPage
  split
  · rfl
  · split <;> simp

@[simp] theorem callSide_queueScan (s : State) : callSide (queueScan s) = callSide s := callSide_foldl callSide_scanPage _ _

@[simp] theorem callSide_popZone (s : State) (z : ZoneId) : callSide (popZone s z) = callSide s := by
  unfold popZone; split <;> simp

@[simp] theorem callSide_dropPageClaims (s : State) (p : PageId) : callSide (dropPageClaims s p) = callSide s := by
  unfold dropPageClaims
  extract_lets r s1 s2 s3 s4
  have h2 : callSide s2 = callSide s := callSide_foldl (by simp) _ _
  have h3 : callSide s3 = callSide s2 := by
    show callSide (if _ then _ else _) = _
    split <;> simp
  have h4 : callSide s4 = callSide s3 := by
    show callSide (match r.source, r.bus with
      | .tone k _, some _ => dropClaim s3 k .tone
      | _, _ => s3) = _
    split <;> simp
  exact (callSide_foldl callSide_refollow _ _).trans (h4.trans (h3.trans h2))

@[simp] theorem callSide_extendPage (s : State) (p : PageId) (g : Byte) (n : Nat) : callSide (extendPage s p g n) = callSide s := by
  unfold extendPage; split <;> rfl

@[simp] theorem callSide_setReferenced (s : State) (gs : List PageGroupId) : callSide (setReferenced s gs) = callSide s :=
  callSide_foldl (by simp) _ _

@[simp] theorem callSide_enqueuePage (s : State) (p : PageId) : callSide (enqueuePage s p) = callSide s := rfl

/-! ### What a page may change of a call, a station and a group -/

/-- The change from `s` to `t` is one that pages make: of a call its announcement page, of a station its voice page, of a group
the live fields of its announcement and its beacon, and nothing of the Pickup and Park Unit. -/
structure PagesOnly (s t : State) : Prop where
  calls : ∀ c, { t.call c with annPage := none } = { s.call c with annPage := none }
  stations : ∀ x, { t.station x with voicePage := none } = { s.station x with voicePage := none }
  groups : ∀ g, { t.group g with ann := AnnLive.reset, beacon := BeaconLive.reset } =
    { s.group g with ann := AnnLive.reset, beacon := BeaconLive.reset }
  ppu : t.ppu = s.ppu

namespace PagesOnly

theorem refl (s : State) : PagesOnly s s := ⟨fun _ => rfl, fun _ => rfl, fun _ => rfl, rfl⟩

theorem trans {s t u : State} (h : PagesOnly s t) (k : PagesOnly t u) : PagesOnly s u :=
  ⟨fun c => (k.calls c).trans (h.calls c), fun x => (k.stations x).trans (h.stations x), fun g => (k.groups g).trans (h.groups g),
    k.ppu.trans h.ppu⟩

theorem of_callSide {s t : State} (h : callSide t = callSide s) : PagesOnly s t := by
  obtain ⟨hsct, hde, hppu⟩ : t.sct = s.sct ∧ t.de = s.de ∧ t.ppu = s.ppu := by simpa [callSide] using h
  refine ⟨fun c => ?_, fun x => ?_, fun g => ?_, hppu⟩ <;> simp [State.call, State.station, State.group, hsct, hde]

theorem modCall (s : State) (c : CallId) (f : Call → Call)
    (hf : ∀ d, { f d with annPage := none } = { d with annPage := none }) : PagesOnly s (s.modCall c f) := by
  refine ⟨fun d => ?_, fun _ => rfl, fun _ => rfl, rfl⟩
  rw [State.modCall_apply]
  split
  · rename_i h; rw [hf, h]
  · rfl

theorem modStation (s : State) (x : StationId) (f : Station → Station)
    (hf : ∀ d, { f d with voicePage := none } = { d with voicePage := none }) : PagesOnly s (s.modStation x f) := by
  refine ⟨fun _ => rfl, fun y => ?_, fun _ => rfl, rfl⟩
  rw [State.modStation_apply]
  split
  · rename_i h; rw [hf, h]
  · rfl

theorem modGroup (s : State) (g : GroupId) (f : Group → Group)
    (hf : ∀ d, { f d with ann := AnnLive.reset, beacon := BeaconLive.reset } =
      { d with ann := AnnLive.reset, beacon := BeaconLive.reset }) : PagesOnly s (s.modGroup g f) := by
  refine ⟨fun _ => rfl, fun _ => rfl, fun d => ?_, rfl⟩
  rw [State.modGroup_apply]
  split
  · rename_i h; rw [hf, h]
  · rfl

theorem call_state {s t : State} (h : PagesOnly s t) (c : CallId) : (t.call c).state = (s.call c).state :=
  by simpa using congrArg Call.state (h.calls c)

theorem group_queue {s t : State} (h : PagesOnly s t) (g : GroupId) : (t.group g).queue = (s.group g).queue :=
  by simpa using congrArg Group.queue (h.groups g)

end PagesOnly

theorem dropVoicePage_pagesOnly (s : State) (p : PageId) : PagesOnly s (dropVoicePage s p) := by
  unfold dropVoicePage
  split
  · exact .modStation _ _ _ fun d => by split <;> rfl
  · exact .refl _

theorem ownerTakesEnd_pagesOnly (s : State) (p : PageId) (c : EndCause) : PagesOnly s (ownerTakesEnd s p c) := by
  unfold ownerTakesEnd
  split
  · exact .modGroup _ _ _ fun d => by (repeat' split) <;> rfl
  · split
    · exact .refl _
    · exact .modCall _ _ _ fun d => by split <;> rfl
  · exact .refl _

theorem endPageNoScan_pagesOnly (s : State) (p : PageId) (c : EndCause) : PagesOnly s (endPageNoScan s p c) := by
  unfold endPageNoScan
  extract_lets s0 s1 s2 s3 s4 s5 s6 s7 s8
  have h1 : callSide s1 = callSide s := rfl
  have h2 : callSide s2 = callSide s1 := callSide_foldl callSide_popZone _ s1
  have h3 : callSide s3 = callSide s2 := callSide_foldl (by simp) _ _
  have h4 : callSide s4 = callSide s3 := callSide_dropPageClaims _ _
  have h5 : callSide s5 = callSide s4 := by
    show callSide (match (s4.page p).bus with
      | some b => s4.modBus b fun _ => Bus.free
      | none => s4) = _
    split <;> simp
  have h6 : PagesOnly s5 s6 := dropVoicePage_pagesOnly _ _
  have h7 : callSide s7 = callSide s6 := callSide_modPage s6 _ _
  have h8 : callSide s8 = callSide s7 := callSide_pageNotice s7 _ _
  exact (((PagesOnly.of_callSide (h5.trans (h4.trans (h3.trans (h2.trans h1))))).trans h6).trans
    (.of_callSide (h8.trans h7))).trans (ownerTakesEnd_pagesOnly _ _ _)

theorem createPage_pagesOnly (s : State) (p : PageId) (q : PageRequest) : PagesOnly s (createPage s p q) := by
  unfold createPage
  extract_lets s1 s2
  have h2 : PagesOnly s s2 := .of_callSide (callSide_setReferenced s1 _)
  refine h2.trans ?_
  split
  · exact .modStation _ _ _ fun _ => rfl
  · exact .refl _

theorem startAttempt_pagesOnly {s : State} {q : PageRequest} {r : Started} (h : startAttempt s q = .ok r) :
    PagesOnly s r.state := by
  have create (u : State) (p : PageId) {v : State} (hv : callSide v = callSide (createPage u p q)) : PagesOnly u v :=
    (createPage_pagesOnly u p q).trans (.of_callSide hv)
  unfold startAttempt at h
  split at h
  · cases h
  split at h
  · split at h
    · cases h
    · rw [← Except.ok.inj h]
      exact create _ _ (callSide_enqueuePage _ _)
  split at h
  · rw [← Except.ok.inj h]
    exact create _ _ (callSide_startPage _ _ _)
  split at h
  · split at h
    · rw [← Except.ok.inj h]
      exact (endPageNoScan_pagesOnly _ _ _).trans (create _ _ (callSide_startPage _ _ _))
    · cases h
  · split at h
    · cases h
    · rw [← Except.ok.inj h]
      exact create _ _ (callSide_enqueuePage _ _)

theorem modAnn_pagesOnly (s : State) (g : GroupId) (f : AnnLive → AnnLive) : PagesOnly s (modAnn s g f) :=
  .modGroup _ _ _ fun _ => rfl

theorem modBeacon_pagesOnly (s : State) (g : GroupId) (f : BeaconLive → BeaconLive) : PagesOnly s (modBeacon s g f) :=
  .modGroup _ _ _ fun _ => rfl

theorem triggerAnnouncement_pagesOnly (s : State) (g : GroupId) : PagesOnly s (triggerAnnouncement s g).1 := by
  unfold triggerAnnouncement
  extract_lets t
  have ht : PagesOnly s t := modAnn_pagesOnly _ _ _
  split
  · rename_i r hr
    have hstart : PagesOnly t r.state := by
      unfold announcementAttempt at hr
      split at hr
      · cases hr
      split at hr
      · cases hr
      · exact startAttempt_pagesOnly hr
    dsimp only
    exact (ht.trans hstart).trans (modAnn_pagesOnly _ _ _)
  · dsimp only
    exact ht.trans (.trans (t := queueNotice t g _) (.of_callSide rfl) (modAnn_pagesOnly _ _ _))

theorem extendAnnouncement_pagesOnly (s : State) (g : GroupId) : PagesOnly s (extendAnnouncement s g) := by
  unfold extendAnnouncement
  split
  · exact .of_callSide (callSide_extendPage ..)
  · exact .refl _

/-- An arrival that the announcement takes touches no call, station or group beyond what its page touches. -/
theorem announcementJoin_pagesOnly (s : State) (g : GroupId) : PagesOnly s (announcementJoin s g) := by
  unfold announcementJoin
  dsimp only
  split
  · exact .refl _
  split
  · split
    · exact (modAnn_pagesOnly _ _ _).trans (triggerAnnouncement_pagesOnly _ _)
    · exact modAnn_pagesOnly _ _ _
  · split
    · exact (modAnn_pagesOnly _ _ _).trans (triggerAnnouncement_pagesOnly _ _)
    · exact modAnn_pagesOnly _ _ _
  · split
    · exact ((modAnn_pagesOnly _ _ _).trans (modAnn_pagesOnly _ _ _)).trans (extendAnnouncement_pagesOnly _ _)
    · exact modAnn_pagesOnly _ _ _

theorem beaconJoin_pagesOnly (s : State) (g : GroupId) : PagesOnly s (beaconJoin s g) := by
  unfold beaconJoin
  split
  · split
    · exact (modBeacon_pagesOnly s g fun _ => { state := .on, dl := none }).trans (.of_callSide (by simp [beaconOn]))
    · exact .refl _
  · exact .refl _
  · exact modBeacon_pagesOnly _ _ _

/-! ### The effects of a queue's becoming empty -/

theorem announcementEmpty_pagesOnly (s : State) (g : GroupId) : PagesOnly s (announcementEmpty s g) := by
  unfold announcementEmpty
  split
  · exact modAnn_pagesOnly _ _ _
  · exact .refl _

theorem announcementEmpty_sct (s : State) (g : GroupId) : (announcementEmpty s g).sct = s.sct := by
  unfold announcementEmpty; split <;> rfl

/-- A beacon that goes OFF is its own record, a claim and a choice of channel: the calls' blocks see the record alone. -/
theorem callSide_beaconOff (s : State) (g : GroupId) :
    callSide (beaconOff s g) = callSide (modBeacon s g fun _ => { state := .off, dl := none }) := by
  unfold beaconOff
  dsimp only
  split <;> simp

theorem beaconEmpty_pagesOnly (s : State) (g : GroupId) : PagesOnly s (beaconEmpty s g) := by
  unfold beaconEmpty
  split
  · split
    · exact (modBeacon_pagesOnly s g _).trans (.of_callSide (callSide_beaconOff s g))
    · exact modBeacon_pagesOnly _ _ _
  · exact .refl _

theorem beaconEmpty_sct (s : State) (g : GroupId) : (beaconEmpty s g).sct = s.sct := by
  unfold beaconEmpty
  split
  · split
    · exact congrArg Prod.fst (callSide_beaconOff s g)
    · rfl
  · rfl

/-! ## Group queues -/

/-- A call that leaves a group's queue changes no station and no call record. -/
theorem queueLeave_sct (s : State) (g : GroupId) (c : CallId) : (queueLeave s g c).sct = s.sct := by
  unfold queueLeave
  dsimp only
  split
  · rw [beaconEmpty_sct, announcementEmpty_sct]; rfl
  · rfl

theorem queueLeave_queue (s : State) (g : GroupId) (c : CallId) :
    ((queueLeave s g c).group g).queue = (s.group g).queue.erase c := by
  unfold queueLeave
  extract_lets t
  have ht : (t.group g).queue = (s.group g).queue.erase c := by simp [t]
  split
  · rw [(beaconEmpty_pagesOnly _ _).group_queue, (announcementEmpty_pagesOnly _ _).group_queue]
    exact ht
  · exact ht

theorem leaveQueueIfQueued_not {s : State} {c : CallId} (h : (s.call c).state ≠ .queued) : leaveQueueIfQueued s c = s := by
  unfold leaveQueueIfQueued
  split
  · exact if_neg fun hc => h hc.1
  · rfl

/-- A QUEUED call that leaves its group's queue stands in it no more, and no station and no call record changes. -/
theorem leaveQueueIfQueued_queued {s : State} {c : CallId} {g : GroupId} (hg : (s.call c).current = some g)
    (hs : (s.call c).state = .queued) :
    (leaveQueueIfQueued s c).sct = s.sct ∧ ((leaveQueueIfQueued s c).group g).queue = (s.group g).queue.erase c := by
  simp only [leaveQueueIfQueued, hg, hs, true_and]
  split
  · exact ⟨queueLeave_sct s g c, queueLeave_queue s g c⟩
  · rename_i hc
    exact ⟨rfl, (List.erase_of_not_mem (by simpa using hc)).symm⟩

/-- What a call that joins a group's queue leaves: it is QUEUED, and stands in the place its priority gives. -/
theorem queueJoin_effect (s : State) (g : GroupId) (c : CallId) :
    ((queueJoin s g c).call c).state = .queued ∧
      ((queueJoin s g c).group g).queue = insertBy (queuePrecedes s) c (s.group g).queue := by
  unfold queueJoin
  extract_lets was s1 s2 s3 s4
  have hcall : (s2.call c).state = .queued := by simp [s2]
  have hqueue : (s2.group g).queue = insertBy (queuePrecedes s) c (s.group g).queue := by simp [s2, s1]
  have h3 : PagesOnly s2 s3 := by
    show PagesOnly s2 (if _ then _ else _)
    split
    · exact .of_callSide rfl
    · exact .refl _
  have h4 : PagesOnly s2 s4 := h3.trans (announcementJoin_pagesOnly s3 g)
  split
  · have h5 := h4.trans (beaconJoin_pagesOnly s4 g)
    exact ⟨(h5.call_state c).trans hcall, (h5.group_queue g).trans hqueue⟩
  · exact ⟨(h4.call_state c).trans hcall, (h4.group_queue g).trans hqueue⟩

end Sys2Proof.Machine
end

section
/-!
PROOFS. Answers, takings and the end of a call (O34), and CALL GONE (O39).
-/

namespace Sys2Proof.Machine

/-! ## Answers, takings and the end of a call -/

@[simp] theorem leaveRingLists_pickup (s : State) (c : CallId) (p : PickupId) :
    (leaveRingLists s c).pickup p =
      { s.pickup p with ring := (s.pickup p).ring.filter fun e => e.call != c } := mapTable_get ..

/-- Call `c` is put through to station `x`: it is CONNECTED with its sets empty and its deadlines cleared, the station is TALKING,
and it stands in no ring list. -/
def putThrough (s : State) (c : CallId) (x : StationId) : State :=
  leaveRingLists ((s.modCall c fun d =>
    { d with ringing := [], tried := [], state := .connected, answering := some x, ringDl := none, overflowDl := none
      }).modStation x fun t => { t with state := .talking, call := some c }) c

/-- The CONNECT directive for call `c` at station `x`. -/
def connectReport (s : State) (c : CallId) (x : StationId) : Report :=
  .connect c (s.call c).gen x (s.station x).cfg.label (s.call c).hostRef

theorem putThrough_call (s : State) (c d : CallId) (x : StationId) :
    (putThrough s c x).call d = if d = c then
      { s.call c with ringing := [], tried := [], state := .connected, answering := some x, ringDl := none, overflowDl := none }
      else s.call d := State.modCall_apply ..

theorem putThrough_station (s : State) (c : CallId) (x y : StationId) :
    (putThrough s c x).station y = if y = x then { s.station x with state := .talking, call := some c } else s.station y :=
  State.modStation_apply ..

theorem putThrough_pickup (s : State) (c : CallId) (x : StationId) (p : PickupId) :
    ((putThrough s c x).pickup p).ring = (s.pickup p).ring.filter fun e => e.call != c :=
  congrArg PickupGroup.ring (leaveRingLists_pickup ..)

theorem ringLeaveAll_nil (s : State) (c : CallId) : ringLeaveAll s c [] = s := rfl

/-! ### Leaving an orbit -/

theorem leaveOrbit_none {s : State} {c : CallId} (h : (s.call c).orbit = none) : leaveOrbit s c = s := by
  simp only [leaveOrbit, h]

theorem leaveOrbit_some {s : State} {c : CallId} {o : OrbitId} (h : (s.call c).orbit = some o) :
    leaveOrbit s c = releaseOrbit s o c := by
  simp only [leaveOrbit, h]

theorem releaseOrbit_call (s : State) (o : OrbitId) (c d : CallId) :
    (releaseOrbit s o c).call d =
      if d = c then { s.call c with orbit := none, parker := none, recallPending := false } else s.call d :=
  State.modCall_apply ..

theorem releaseOrbit_orbit (s : State) (o : OrbitId) (c : CallId) :
    (releaseOrbit s o c).orbit o = Orbit.freed (s.orbit o).gen := State.modOrbit_same ..

/-- Of a call's record, leaving an orbit changes the fields that are about the orbit. -/
theorem leaveOrbit_call (s : State) (c : CallId) :
    (leaveOrbit s c).call c = { s.call c with
      orbit := none, parker := ((leaveOrbit s c).call c).parker,
      recallPending := ((leaveOrbit s c).call c).recallPending } := by
  cases h : (s.call c).orbit with
  | none => rw [leaveOrbit_none h, ← h]
  | some o => simp [leaveOrbit_some h, releaseOrbit_call]

theorem leaveOrbit_call_ne (s : State) {c d : CallId} (hd : d ≠ c) : (leaveOrbit s c).call d = s.call d := by
  cases h : (s.call c).orbit with
  | none => rw [leaveOrbit_none h]
  | some o => simp [leaveOrbit_some h, releaseOrbit_call, hd]

theorem leaveOrbit_orbit {s : State} {c : CallId} {o : OrbitId} (h : (s.call c).orbit = some o) :
    (leaveOrbit s c).orbit o = Orbit.freed (s.orbit o).gen ∧ (leaveOrbit s c).ppu.freeOrder = s.ppu.freeOrder ++ [o] := by
  rw [leaveOrbit_some h]
  exact ⟨releaseOrbit_orbit s o c, rfl⟩

/-- Leaving an orbit touches nothing but the call, the orbits and the free order. -/
theorem leaveOrbit_others (s : State) (c : CallId) :
    let t := leaveOrbit s c
    t.sct.stations = s.sct.stations ∧ t.ppu.pickups = s.ppu.pickups ∧ t.cl = s.cl ∧ t.de = s.de ∧ t.pdir = s.pdir ∧
      t.pgc = s.pgc ∧ t.ag = s.ag ∧ t.flc = s.flc ∧ t.cs = s.cs := by
  cases h : (s.call c).orbit with
  | none => rw [leaveOrbit_none h]; exact ⟨rfl, rfl, rfl, rfl, rfl, rfl, rfl, rfl, rfl⟩
  | some o => rw [leaveOrbit_some h]; exact ⟨rfl, rfl, rfl, rfl, rfl, rfl, rfl, rfl, rfl⟩

theorem leaveOrbit_station (s : State) (c : CallId) (x : StationId) : (leaveOrbit s c).station x = s.station x := by
  simp only [State.station, (leaveOrbit_others s c).1]

theorem withdrawAnnouncement_none {s : State} {c : CallId} (h : (s.call c).annPage = none) : withdrawAnnouncement s c = s := by
  simp only [withdrawAnnouncement, h]

/-! ### The answer -/

/-- The answer by the only ringing station: the call is put through, leaves the orbit it was recalled from, and one CONNECT is
queued. -/
theorem answerCall_single {s : State} {c : CallId} {x : StationId} (h : (s.call c).ringing = [x]) :
    answerCall s c x =
      (let t := if (s.call c).state = .recalling then leaveOrbit (putThrough s c x) c else putThrough s c x
       queueReport t (connectReport t c x)) := by
  unfold answerCall
  rw [h, List.erase_cons_head]
  rfl

/-- The answer's last state but for its report. -/
theorem answerCall_frame {s t : State} {c : CallId} {x : StationId}
    (ht : t = if (s.call c).state = .recalling then leaveOrbit (putThrough s c x) c else putThrough s c x) :
    t.cl = s.cl ∧ t.sct.stations = (putThrough s c x).sct.stations ∧ t.ppu.pickups = (putThrough s c x).ppu.pickups ∧
      (∀ d, d ≠ c → t.call d = s.call d) ∧
      t.call c = { (putThrough s c x).call c with
        orbit := (t.call c).orbit, parker := (t.call c).parker, recallPending := (t.call c).recallPending } ∧
      t.de = s.de ∧ t.pdir = s.pdir ∧ t.pgc = s.pgc ∧ t.ag = s.ag ∧ t.flc = s.flc ∧ t.cs = s.cs := by
  have hother (d : CallId) (hd : d ≠ c) : (putThrough s c x).call d = s.call d := by rw [putThrough_call, if_neg hd]
  split at ht
  · subst ht
    obtain ⟨hst, hpk, hcl, hde, hpdir, hpgc, hag, hflc, hcs⟩ := leaveOrbit_others (putThrough s c x) c
    refine ⟨hcl, hst, hpk, fun d hd => (leaveOrbit_call_ne _ hd).trans (hother d hd), ?_, hde, hpdir, hpgc, hag, hflc, hcs⟩
    rw [leaveOrbit_call]
  · subst ht
    exact ⟨rfl, rfl, rfl, hother, rfl, rfl, rfl, rfl, rfl, rfl, rfl⟩

theorem queueReport_reports {s : State} (r : Report) (h : s.cl.reports.length < 64) :
    (queueReport s r).cl.reports = s.cl.reports ++ [r] := by rw [queueReport_room s r h]

/-- O34's first part: what the answer by the only ringing station leaves. -/
theorem answerCall_connects (s : State) (c : CallId) (x : StationId) (h : (s.call c).ringing = [x]) :
    let t := answerCall s c x
    (t.call c).state = .connected ∧ (t.call c).answering = some x ∧ (t.call c).ringing = [] ∧ (t.call c).tried = [] ∧
     (t.call c).ringDl = none ∧ (t.call c).overflowDl = none ∧ (t.call c).gen = (s.call c).gen ∧
     t.station x = { s.station x with state := .talking, call := some c } ∧
     (∀ y, y ≠ x → t.station y = s.station y) ∧ (∀ d, d ≠ c → t.call d = s.call d) ∧
     (∀ p e, e ∈ (t.pickup p).ring → e.call ≠ c) ∧
     (s.cl.reports.length < 64 → t.cl.reports = s.cl.reports ++
       [.connect c (s.call c).gen x (s.station x).cfg.label (s.call c).hostRef]) ∧
     ((s.call c).state ≠ .recalling → t.ppu.orbits = s.ppu.orbits ∧ t.ppu.freeOrder = s.ppu.freeOrder) ∧
     (∀ o, (s.call c).state = .recalling → (s.call c).orbit = some o →
       t.orbit o = Orbit.freed (s.orbit o).gen ∧ t.ppu.freeOrder = s.ppu.freeOrder ++ [o] ∧ (t.call c).orbit = none) ∧
     t.de = s.de ∧ t.pdir = s.pdir ∧ t.pgc = s.pgc ∧ t.ag = s.ag ∧ t.flc = s.flc ∧ t.cs = s.cs := by
  intro t
  have ht : t = _ := answerCall_single h
  extract_lets u at ht
  obtain ⟨hcl, hstations, hpickups, hother, hcall, hde, hpdir, hpgc, hag, hflc, hcs⟩ := answerCall_frame (t := u) rfl
  have hstation (y : StationId) : u.station y = (putThrough s c x).station y := by simp only [State.station, hstations]
  have hpickup (p : PickupId) : u.pickup p = (putThrough s c x).pickup p := by simp only [State.pickup, hpickups]
  rw [putThrough_call, if_pos rfl] at hcall
  have hx : u.station x = { s.station x with state := .talking, call := some c } := by
    rw [hstation, putThrough_station, if_pos rfl]
  rw [ht]
  simp only [queueReport_call, queueReport_station, queueReport_pickup, queueReport_orbit]
  refine ⟨by rw [hcall], by rw [hcall], by rw [hcall], by rw [hcall], by rw [hcall], by rw [hcall], by rw [hcall], hx,
    fun y hy => ?_, hother, fun p e he => ?_, fun hroom => ?_, fun hs => ?_, fun o hs ho => ?_, hde, hpdir, hpgc, hag, hflc, hcs⟩
  · rw [hstation, putThrough_station, if_neg hy]
  · rw [hpickup, putThrough_pickup] at he
    simpa using (List.mem_filter.mp he).2
  · rw [queueReport_reports _ (by rw [hcl]; exact hroom), hcl, connectReport, hcall, hx]
  · have hu : u = putThrough s c x := if_neg hs
    rw [hu]
    exact ⟨rfl, rfl⟩
  · have hu : u = leaveOrbit (putThrough s c x) c := if_pos hs
    have ho' : ((putThrough s c x).call c).orbit = some o := by rw [putThrough_call, if_pos rfl]; exact ho
    rw [hu]
    exact ⟨(leaveOrbit_orbit ho').1, (leaveOrbit_orbit ho').2, by rw [leaveOrbit_call]⟩

/-! ### The taking -/

/-- A call that is not queued, rings nowhere and holds no announcement, taken by a station without a voice page: it leaves its
orbit, is put through, and one CONNECT is queued. -/
theorem takeCall_parked {s : State} {c : CallId} {x : StationId} (hring : (s.call c).ringing = [])
    (hann : (s.call c).annPage = none) (hvoice : (s.station x).voicePage = none) (hs : (s.call c).state ≠ .queued) :
    takeCall s c x =
      (let t := putThrough (leaveOrbit s c) c x
       queueReport t (connectReport t c x)) := by
  unfold takeCall
  have hvoice' : ((leaveOrbit s c).station x).voicePage = none := by rw [leaveOrbit_station]; exact hvoice
  simp only [hring, leaveQueueIfQueued_not hs, ringLeaveAll_nil, withdrawAnnouncement_none hann, endVoicePage_none hvoice']
  rfl

/-- O34's second part: what taking a parked call leaves. -/
theorem takeCall_connects (s : State) (c : CallId) (x : StationId) (hring : (s.call c).ringing = [])
    (hann : (s.call c).annPage = none) (hvoice : (s.station x).voicePage = none) (hs : (s.call c).state ≠ .queued)
    (hroom : s.cl.reports.length < 64) :
    let t := takeCall s c x
    (t.call c).state = .connected ∧ (t.call c).answering = some x ∧ (t.call c).orbit = none ∧ (t.call c).tried = [] ∧
     (t.call c).gen = (s.call c).gen ∧ (∀ d, d ≠ c → t.call d = s.call d) ∧
     t.station x = { s.station x with state := .talking, call := some c } ∧ (∀ y, y ≠ x → t.station y = s.station y) ∧
     (∀ o, (s.call c).orbit = some o → t.orbit o = Orbit.freed (s.orbit o).gen ∧
       t.ppu.freeOrder = s.ppu.freeOrder ++ [o]) ∧
     t.cl.reports = s.cl.reports ++ [.connect c (s.call c).gen x (s.station x).cfg.label (s.call c).hostRef] ∧
     t.de = s.de ∧ t.pdir = s.pdir ∧ t.pgc = s.pgc ∧ t.ag = s.ag ∧ t.flc = s.flc ∧ t.cs = s.cs := by
  intro t
  have ht : t = _ := takeCall_parked hring hann hvoice hs
  extract_lets u at ht
  obtain ⟨-, -, hcl, hde, hpdir, hpgc, hag, hflc, hcs⟩ := leaveOrbit_others s c
  have hcall := putThrough_call (leaveOrbit s c) c c x
  rw [if_pos rfl, leaveOrbit_call] at hcall
  have hx := putThrough_station (leaveOrbit s c) c x x
  rw [if_pos rfl, leaveOrbit_station] at hx
  rw [ht]
  simp only [queueReport_call, queueReport_station, queueReport_orbit]
  refine ⟨by rw [hcall], by rw [hcall], by rw [hcall], by rw [hcall], by rw [hcall], fun d hd => ?_, hx, fun y hy => ?_,
    fun o ho => leaveOrbit_orbit ho, ?_, hde, hpdir, hpgc, hag, hflc, hcs⟩
  · rw [putThrough_call, if_neg hd, leaveOrbit_call_ne _ hd]
  · rw [putThrough_station, if_neg hy, leaveOrbit_station]
  · have hu : u.cl = s.cl := hcl
    rw [queueReport_reports _ (by rw [hu]; exact hroom), hu, connectReport, hcall, hx]

/-! ### The end -/

/-- Freeing a call that rings nowhere, is not queued, and holds no orbit and no announcement: its answering station goes where the
rule says, its ring list entries and its record are cleared, and the station is offered. -/
theorem freeCall_answered {s : State} {c : CallId} {x : StationId} (next : Release) (hs : (s.call c).state ≠ .queued)
    (hring : (s.call c).ringing = []) (ho : (s.call c).orbit = none) (hann : (s.call c).annPage = none)
    (hx : (s.call c).answering = some x) :
    freeCall s c next =
      offer ((leaveRingLists (releaseStation s x next) c).modCall c fun d => Call.freed d.gen) x := by
  unfold freeCall
  simp only [hring, ringLeaveAll_nil, leaveQueueIfQueued_not hs, leaveOrbit_none ho, withdrawAnnouncement_none hann, hx]
  rfl

theorem releaseStation_wrapup {s : State} {x : StationId} {n : Nat} (hn : 0 < n) :
    releaseStation s x (.wrapup n) =
      s.modStation x fun t => { t with state := .wrapup, call := none, wrapupDl := some (after s.now n) } := by
  simp only [releaseStation, if_neg (Nat.pos_iff_ne_zero.mp hn)]

theorem releaseStation_noWrapup (s : State) (x : StationId) : releaseStation s x (.wrapup 0) = enterIdle s x := by
  simp only [releaseStation, if_true]

/-- A released station keeps its do-not-disturb flag. -/
theorem releaseStation_dnd (s : State) (x : StationId) (next : Release) :
    ((releaseStation s x next).station x).dnd = (s.station x).dnd := by
  unfold releaseStation
  (repeat' split) <;> simp [enterIdle]

/-- A release changes the station alone. -/
theorem releaseStation_others (s : State) (x : StationId) (next : Release) :
    let t := releaseStation s x next
    (∀ y, y ≠ x → t.station y = s.station y) ∧ t.sct.calls = s.sct.calls ∧ t.ppu = s.ppu ∧ t.cl = s.cl ∧ t.de = s.de ∧
      t.pgc = s.pgc ∧ t.ag = s.ag ∧ t.flc = s.flc := by
  unfold releaseStation
  dsimp only
  (repeat' split) <;>
    exact ⟨fun y hy => State.modStation_ne _ _ hy, rfl, rfl, rfl, rfl, rfl, rfl, rfl⟩

/-- O34's third part: what freeing a CONNECTED call leaves when its station takes no new work. -/
theorem freeCall_connected (s : State) (c : CallId) (x : StationId) (n : Nat) (hs : (s.call c).state = .connected)
    (hx : (s.call c).answering = some x) (hring : (s.call c).ringing = []) (ho : (s.call c).orbit = none)
    (hann : (s.call c).annPage = none) (hd : (s.station x).dnd = true) :
    let t := freeCall s c (.wrapup n)
    t.call c = Call.freed (s.call c).gen ∧ (∀ d, d ≠ c → t.call d = s.call d) ∧
     (0 < n → t.station x = { s.station x with
       state := .wrapup, call := none, wrapupDl := some (s.sct.tick + BitVec.ofNat 32 n) }) ∧
     (n = 0 → t.station x = { s.station x with state := .idle, call := none, wrapupDl := none, idleSince := s.sct.tick }) ∧
     (∀ y, y ≠ x → t.station y = s.station y) ∧ t.cl = s.cl ∧ t.de = s.de ∧ t.pgc = s.pgc ∧ t.ag = s.ag ∧ t.flc = s.flc ∧
     t.ppu.orbits = s.ppu.orbits := by
  intro t
  have ht : t = _ := freeCall_answered (.wrapup n) (by rw [hs]; decide) hring ho hann hx
  obtain ⟨hothers, hcalls, hppu, hcl, hde, hpgc, hag, hflc⟩ := releaseStation_others s x (.wrapup n)
  have hcall (d : CallId) : (releaseStation s x (.wrapup n)).call d = s.call d := by simp only [State.call, hcalls]
  have hstation (y : StationId) (f : Call → Call) :
      ((leaveRingLists (releaseStation s x (.wrapup n)) c).modCall c f).station y =
        (releaseStation s x (.wrapup n)).station y := rfl
  rw [offer_unavailable (by rw [hstation, Station.available, releaseStation_dnd, hd]; simp)] at ht
  rw [ht]
  refine ⟨?_, fun d hd => ?_, fun hn => ?_, fun hn => ?_, fun y hy => ?_, hcl, hde, hpgc, hag, hflc, (congrArg Ppu.orbits hppu :)⟩
  · exact (State.modCall_same ..).trans (congrArg (fun d => Call.freed d.gen) (hcall c))
  · exact (State.modCall_ne _ _ hd).trans (hcall d)
  · rw [hstation, releaseStation_wrapup hn, State.modStation_same]; rfl
  · subst hn
    rw [hstation, releaseStation_noWrapup, enterIdle_station]; rfl
  · rw [hstation, hothers y hy]

/-- Settles O34: the answer and the taking are `putThrough` with the orbit left and one CONNECT queued, the end is
`releaseStation` with the record cleared. -/
theorem callsAreAnsweredTakenAndFreed : Obligations.CallsAreAnsweredTakenAndFreed := by
  unfold Obligations.CallsAreAnsweredTakenAndFreed
  exact ⟨answerCall_connects, takeCall_connects, freeCall_connected⟩

/-! ## CALL GONE -/

theorem callGoneOwner_run {s : State} {call generation : Byte} {c : CallId} (hm : s.cl.mode = .run)
    (hc : readFin 192 call.toNat = some c) :
    callGoneOwner call generation (framerHunt s) =
      if staleGen generation (s.call c).gen then .refuse .stale
      else if (s.call c).state = .free then .refuse .wrongState
      else .ok (freeCall (framerHunt s) c .idle) [(s.call c).state.code] := by
  simp only [callGoneOwner, framerHunt_running hm, not_true_eq_false, if_false, hc, framerHunt_call]
  rfl

theorem staleGen_false {generation held : Byte} (h : generation = 0 ∨ generation = held) : staleGen generation held = false := by
  rcases h with h | h <;> simp [staleGen, h]

theorem staleGen_true {generation held : Byte} (h0 : generation ≠ 0) (hne : generation ≠ held) :
    staleGen generation held = true := by
  simpa [staleGen, hne] using h0

/-- Freeing a QUEUED call that rings nowhere, has no answering station, and holds no orbit and no announcement. -/
theorem freeCall_queued {s : State} {c : CallId} (next : Release) (hring : (s.call c).ringing = [])
    (hans : (s.call c).answering = none) (ho : (s.call c).orbit = none) (hann : (s.call c).annPage = none)
    (hsct : (leaveQueueIfQueued s c).sct = s.sct) :
    freeCall s c next = (leaveRingLists (leaveQueueIfQueued s c) c).modCall c fun d => Call.freed d.gen := by
  have hcall : (leaveQueueIfQueued s c).call c = s.call c := by simp only [State.call, hsct]
  unfold freeCall
  simp only [hring, ringLeaveAll_nil, leaveOrbit_none (hcall ▸ ho), withdrawAnnouncement_none (hcall ▸ hann), hcall, hans]
  rfl

/-- Settles O39: CALL GONE's checks in order, then `freeCall`, which for a QUEUED call is the leave of the queue and the cleared
record. -/
theorem callGoneFreesTheCall : Obligations.CallGoneFreesTheCall := by
  unfold Obligations.CallGoneFreesTheCall
  intro h call generation s c hr hm hc
  have howner := callGoneOwner_run (generation := generation) hm hc
  have freed (hg : generation = 0 ∨ generation = (s.call c).gen) (hs : (s.call c).state ≠ .free) :
      exec (.callGone h call generation) s =
        .next (replied (freeCall (framerHunt s) c .idle) 0x32 h .ok [(s.call c).state.code]) :=
    received_taken hr (by simp) (by simp [howner, staleGen_false hg, hs])
  refine ⟨fun h0 hne => ?_, fun hg hs => ?_, freed, fun g hg hs hcur hring hans ho hann => ?_⟩
  · exact received_refused hr (by simp) (by simp [howner, staleGen_true h0 hne])
  · exact received_refused hr (by simp) (by simp [howner, staleGen_false hg, hs])
  · obtain ⟨hsct, hqueue⟩ := leaveQueueIfQueued_queued (s := framerHunt s) hcur hs
    have hfree := freeCall_queued (s := framerHunt s) .idle hring hans ho hann hsct
    refine ⟨_, freed hg (by rw [hs]; decide), ?_, ?_, ?_⟩
    · rw [replied_call, hfree, State.modCall_same]
      exact congrArg (fun u : Sct => Call.freed u.calls[c].gen) hsct
    · rw [replied_group, hfree]
      exact hqueue
    · rw [replied_sct, hfree]
      exact (congrArg Sct.stations hsct :)

end Sys2Proof.Machine
end

section
/-!
PROOFS. CALL OFFER (O37, O38): the record of a new call, the join of a ringing set, the arrival at a group.
-/

namespace Sys2Proof.Machine

/-! ## New calls -/

/-- The lowest record for which `p` holds. -/
theorem lowestWhere_eq {n : Nat} {p : Fin n → Bool} {c : Fin n} (hc : p c = true) (hlow : ∀ d, d < c → p d = false) :
    lowestWhere p = some c := by
  refine List.find?_eq_some_iff_getElem.mpr ⟨hc, c.val, by simp, by simp, fun j hj => ?_⟩
  simp [hlow ⟨j, by omega⟩ hj]

theorem freeCallRecord_lowest {s : State} {c : CallId} (hc : (s.call c).state = .free)
    (hlow : ∀ d, d < c → (s.call d).state ≠ .free) : freeCallRecord s = some c :=
  lowestWhere_eq (by simp [hc]) fun d hd => by simpa using hlow d hd

theorem freeCallRecord_none {s : State} (h : ∀ c, (s.call c).state ≠ .free) : freeCallRecord s = none :=
  List.find?_eq_none.mpr fun c _ => by simpa using h c

theorem takeRecord_call (s : State) (c : CallId) (kind : CallKind) (g : Option GroupId) (pr : Priority) (ref : Half) :
    (takeRecord s c kind g pr ref).call c = { Call.freed (nextGen (s.call c).gen) with
      hostRef := ref, kind := kind, priority := pr, offerTick := s.now, entryTick := s.now, home := g, current := g } :=
  State.modCall_same ..

theorem takeRecord_call_ne (s : State) {c d : CallId} (kind : CallKind) (g : Option GroupId) (pr : Priority) (ref : Half)
    (hd : d ≠ c) : (takeRecord s c kind g pr ref).call d = s.call d := State.modCall_ne _ _ hd

/-! ### Joining a ringing set -/

theorem ringJoin_call (s : State) (c d : CallId) (why : RingReason) (x : StationId) :
    (ringJoin s c why x).call d =
      if d = c then { s.call c with ringing := insertAsc x (s.call c).ringing } else s.call d := by
  unfold ringJoin
  dsimp only
  split <;> exact State.modCall_apply ..

theorem ringJoin_station (s : State) (c : CallId) (why : RingReason) (x y : StationId) :
    (ringJoin s c why x).station y =
      if y = x then { s.station x with state := .ringing, call := some c, ringGen := nextGen (s.station x).ringGen }
      else s.station y := by
  unfold ringJoin
  dsimp only
  split <;> exact State.modStation_apply ..

theorem insertBy_mem {α : Type} (precedes : α → α → Bool) (x : α) (l : List α) : x ∈ insertBy precedes x l := by
  induction l with
  | nil => simp [insertBy]
  | cons y ys ih => unfold insertBy; split <;> simp [ih]

/-- A call that enters a ring list stands in it. -/
theorem enterRingList_stands (s : State) (c : CallId) (p : PickupId) :
    ((enterRingList s c p).pickup p).ring.any (fun e => e.call == c) = true := by
  rw [enterRingList, State.modPickup_same]
  split
  · assumption
  · exact List.any_eq_true.mpr ⟨_, insertBy_mem .., by simp⟩

/-- A station of pickup group `p` that joins brings the call into `p`'s ring list. -/
theorem ringJoin_pickup {s : State} {c : CallId} {why : RingReason} {x : StationId} {p : PickupId}
    (hp : (s.station x).cfg.pickup = some p) :
    ((ringJoin s c why x).pickup p).ring.any (fun e => e.call == c) = true := by
  simp only [ringJoin, queueReport_station, State.modCall_station, State.modStation_same, hp]
  exact enterRingList_stands _ c p

/-- No other ring list changes. -/
theorem ringJoin_pickup_ne {s : State} {c : CallId} {why : RingReason} {x : StationId} {p : PickupId}
    (hp : (s.station x).cfg.pickup ≠ some p) : (ringJoin s c why x).pickup p = s.pickup p := by
  simp only [ringJoin, queueReport_station, State.modCall_station, State.modStation_same]
  split
  · rename_i q hq
    have hne : p ≠ q := fun e => hp (e ▸ hq)
    exact State.modPickup_ne _ _ hne
  · rfl

/-- A join touches nothing but calls, stations, ring lists and the link. -/
theorem ringJoin_others (s : State) (c : CallId) (why : RingReason) (x : StationId) :
    let t := ringJoin s c why x
    t.de = s.de ∧ t.pdir = s.pdir ∧ t.pgc = s.pgc ∧ t.ag = s.ag ∧
      t.flc = s.flc ∧ t.cs = s.cs := by
  unfold ringJoin
  dsimp only
  split <;> exact ⟨rfl, rfl, rfl, rfl, rfl, rfl⟩

/-! ### DIRECT offers -/

theorem readTarget_direct {target : Half} {x : StationId} (h : readStation target = some x) :
    readTarget 1 target = some (.direct x) := congrArg (Option.map Target.direct) h

theorem readTarget_group {target : Half} {g : GroupId} (h : readFin 64 (target.toNat % 256) = some g) :
    readTarget 0 target = some (.group g) := congrArg (Option.map Target.group) h

/-- The owner's checks of a DIRECT offer, in order. -/
theorem callOfferOwner_direct {s : State} {kind : Byte} {target : Half} {priority : Byte} {ref : Half} {x : StationId}
    {pr : Priority} (hrun : s.running = true) (ht : readTarget kind target = some (.direct x))
    (hp : readFin 4 priority.toNat = some pr) :
    callOfferOwner kind target priority ref s =
      if ¬ (s.station x).available then .refuse .targetBusy
      else match freeCallRecord s with
        | none => .refuse .noResource
        | some c => .ok (ringDirect (takeRecord s c .direct none pr ref) c x)
            (offerFields (ringDirect (takeRecord s c .direct none pr ref) c x) c) := by
  simp only [callOfferOwner, hrun, not_true_eq_false, if_false, ht, hp] <;> rfl

/-- The owner's checks of a GROUP offer, in order. -/
theorem callOfferOwner_group {s : State} {kind : Byte} {target : Half} {priority : Byte} {ref : Half} {g : GroupId}
    {pr : Priority} (hrun : s.running = true) (ht : readTarget kind target = some (.group g))
    (hp : readFin 4 priority.toNat = some pr) :
    callOfferOwner kind target priority ref s =
      if (s.group g).service = .unused then .refuse .badValue
      else if (s.group g).service = .closed then .refuse .closed
      else match freeCallRecord s with
        | none => .refuse .noResource
        | some c =>
          if arrivalOk s c pr (hopsLeft 0) g then
            .ok (arrive (hopsLeft 0) (takeRecord s c .group (some g) pr ref) c g)
              (offerFields (arrive (hopsLeft 0) (takeRecord s c .group (some g) pr ref) c g) c)
          else .refuse .targetBusy := by
  simp only [callOfferOwner, hrun, not_true_eq_false, if_false, ht, hp] <;> rfl

theorem ringDirect_call (s : State) (c d : CallId) (x : StationId) :
    (ringDirect s c x).call d = if d = c then
      { s.call c with state := .ringing, ringing := insertAsc x (s.call c).ringing, ringDl := coverageDl s x }
      else s.call d := by
  unfold ringDirect
  rw [State.modCall_apply, ringJoin_call, ringJoin_call, if_pos rfl]
  split <;> rfl

/-- Settles O37: the owner takes the lowest FREE record and rings the station by `ringDirect`. -/
theorem directOfferRingsItsStation : Obligations.DirectOfferRingsItsStation := by
  unfold Obligations.DirectOfferRingsItsStation
  intro h target priority ref s x pr c hr hm hx hp hidle hdnd hfree hlow
  have howner := callOfferOwner_direct (s := framerHunt s) (ref := ref) (framerHunt_running hm) (readTarget_direct hx) hp
  have havail : ((framerHunt s).station x).available = true := by simp [Station.available, hidle, hdnd]
  rw [freeCallRecord_lowest (s := framerHunt s) hfree hlow, if_neg (not_not_intro havail)] at howner
  dsimp only at howner
  let u := takeRecord (framerHunt s) c .direct none pr ref
  let t := ringDirect u c x
  have hcall : t.call c = { Call.freed (nextGen (s.call c).gen) with
      hostRef := ref, kind := .direct, priority := pr, offerTick := s.sct.tick, entryTick := s.sct.tick,
      state := .ringing, ringing := [x], ringDl := coverageDl s x } := by
    have hu : coverageDl u x = coverageDl s x := rfl
    rw [ringDirect_call, if_pos rfl, hu, takeRecord_call]
    rfl
  have hstation (y : StationId) : t.station y =
      if y = x then { s.station x with state := .ringing, call := some c, ringGen := nextGen (s.station x).ringGen }
      else s.station y := ringJoin_station u c .direct x y
  obtain ⟨hde, hpdir, hpgc, hag, hflc, hcs⟩ := ringJoin_others u c .direct x
  refine ⟨_, received_taken hr (by simp) howner, ?_⟩
  simp only [replied_call, replied_station, replied_pickup, replied_de, replied_pdir, replied_pgc, replied_ag, replied_flc,
    replied_cs]
  refine ⟨hcall, fun d hd => ?_, (hstation x).trans (if_pos rfl), fun y hy => (hstation y).trans (if_neg hy), ?_, fun p hpk => ?_,
    fun p hpk => ?_, hde, hpdir, hpgc, hag, hflc, hcs⟩
  · rw [ringDirect_call, if_neg hd, takeRecord_call_ne _ _ _ _ _ hd]; rfl
  · have hfields : offerFields t c = enc8 c.val ++ [nextGen (s.call c).gen, 2] := by rw [offerFields, hcall]; rfl
    rw [← hfields]
    exact replied_hasReply ..
  · exact ringJoin_pickup (s := u) hpk
  · exact ringJoin_pickup_ne (s := u) hpk

/-! ### Arrivals at a group that is not in NIGHT -/

theorem nightTarget_none {s : State} {g : GroupId} (h : (s.group g).service ≠ .night) : nightTarget s g = none := if_neg h

/-- A call arrives at the group itself when there is no night group to pass it on to. -/
theorem arrive_here {s : State} {g : GroupId} (n : Nat) (c : CallId) (h : nightTarget s g = none) :
    arrive n s c g = placeCall s c g := by
  cases n <;> simp only [arrive, h]

theorem arrivalOk_here {s : State} {g : GroupId} (n : Nat) (c : CallId) (pr : Priority) (h : nightTarget s g = none) :
    arrivalOk s c pr n g = canPlace s g c pr := by
  cases n <;> simp only [arrivalOk, h]

theorem arrivalOk_framerHunt (s : State) (c : CallId) (pr : Priority) (n : Nat) (g : GroupId) :
    arrivalOk (framerHunt s) c pr n g = arrivalOk s c pr n g := by
  induction n generalizing g with
  | zero => rfl
  | succ n ih =>
    have hn : nightTarget (framerHunt s) g = nightTarget s g := rfl
    have hc : canPlace (framerHunt s) g c pr = canPlace s g c pr := rfl
    simp only [arrivalOk, hn, hc, ih]

theorem canRing_noneFree {s : State} {g : GroupId} (c : CallId) (pr : Priority) (h : anyFree s g = false) :
    canRing s g c pr = false := by simp [canRing, h]

/-- What belonging to group `g` from now on makes of a call's record (R56). -/
def placed (s : State) (g : GroupId) (d : Call) : Call :=
  { d with kind := .group, current := some g, entryTick := s.now, overflowDl := afterOpt s.now (s.group g).cfg.overflowTicks }

theorem placeCall_queues {s : State} {c : CallId} {g : GroupId} (h : canRing s g c (s.call c).priority = false) :
    placeCall s c g = queueJoin (s.modCall c (placed s g)) g c := by
  rw [placeCall, h]; rfl

theorem placeCall_rings {s : State} {c : CallId} {g : GroupId} (h : canRing s g c (s.call c).priority = true) :
    placeCall s c g = ringAvailable (s.modCall c (placed s g)) c g := by
  rw [placeCall, h]; rfl

theorem modCall_modCall (s : State) (c : CallId) (f k : Call → Call) :
    (s.modCall c f).modCall c k = s.modCall c fun d => k (f d) := by
  simp only [State.modCall, upd_upd]

theorem modGroup_self (s : State) (g : GroupId) : s.modGroup g (fun _ => s.group g) = s := by
  simp only [State.modGroup, upd_id s.de.groups g (fun _ => s.group g) rfl]

/-! ### A LINEAR group's ring -/

/-- A LINEAR group selects the first member of its list that is available for the call. -/
theorem selectFor_linear {s : State} {g : GroupId} {c : CallId} {m : Member} (hl : (s.group g).cfg.method = .linear)
    (hm : (s.group g).members.find? (memberAvailable s g c) = some m) :
    selectFor s g c = some ([m.station], s.group g) := by
  simp only [selectFor, hl, hm, Option.map_some]

/-- A call that stands in no queue rings one station. -/
theorem ringGroupCall_one {s : State} {c : CallId} (g : GroupId) (x : StationId) (hs : (s.call c).state ≠ .queued) :
    ringGroupCall s c g [x] = (ringJoin s c .group x).modCall c fun d =>
      { d with state := .ringing, ringDl := afterOpt s.now (s.group g).cfg.noAnswer } := by
  obtain ⟨hde, -⟩ := ringJoin_others s c .group x
  have hnow : (ringJoin s c .group x).now = s.now := (ringJoin_quiet s c .group x).tick
  have hgroup : (ringJoin s c .group x).group g = s.group g := by simp only [State.group, hde]
  simp only [ringGroupCall, leaveQueueIfQueued_not hs, List.foldl_cons, List.foldl_nil, hnow, hgroup]

/-- The ring of a LINEAR group for a call that stands in no queue. -/
theorem ringAvailable_linear {s : State} {g : GroupId} {c : CallId} {m : Member} (hs : (s.call c).state ≠ .queued)
    (hl : (s.group g).cfg.method = .linear) (hm : (s.group g).members.find? (memberAvailable s g c) = some m) :
    ringAvailable s c g = (ringJoin s c .group m.station).modCall c fun d =>
      { d with state := .ringing, ringDl := afterOpt s.now (s.group g).cfg.noAnswer } := by
  have hany : anyAvailable s g c = true :=
    List.any_eq_true.mpr ⟨m, List.mem_of_find?_eq_some hm, List.find?_some hm⟩
  rw [ringAvailable, if_pos hany, selectAndRing, selectFor_linear hl hm]
  dsimp only
  rw [modGroup_self, ringGroupCall_one g m.station hs]

/-! ### GROUP offers -/

/-- A GROUP offer to a group that takes calls, with a FREE record. -/
theorem groupOffer_taken {s : State} {h : Header} {target : Half} {priority : Byte} {ref : Half} {pr : Priority} {g : GroupId}
    {c : CallId} (hr : received s h 6) (hm : s.cl.mode = .run) (hp : readFin 4 priority.toNat = some pr)
    (hg : readFin 64 (target.toNat % 256) = some g) (hu : (s.group g).service ≠ .unused) (hc : (s.group g).service ≠ .closed)
    (hfree : (s.call c).state = .free) (hlow : ∀ d, d < c → (s.call d).state ≠ .free) :
    let u := takeRecord (framerHunt s) c .group (some g) pr ref
    (arrivalOk s c pr 3 g = true → exec (.callOffer h 0 target priority ref) s =
      .next (replied (arrive 3 u c g) 0x31 h .ok (offerFields (arrive 3 u c g) c))) ∧
    (arrivalOk s c pr 3 g = false →
      exec (.callOffer h 0 target priority ref) s = .next (replied (framerHunt s) 0x31 h .targetBusy [])) := by
  intro u
  have howner := callOfferOwner_group (s := framerHunt s) (ref := ref) (framerHunt_running hm) (readTarget_group hg) hp
  rw [freeCallRecord_lowest (s := framerHunt s) hfree hlow, if_neg (by exact hu), if_neg (by exact hc)] at howner
  dsimp only at howner
  rw [arrivalOk_framerHunt] at howner
  refine ⟨fun ha => ?_, fun ha => ?_⟩
  · rw [if_pos (by exact ha)] at howner
    exact received_taken hr (by simp) howner
  · rw [if_neg (by rw [show hopsLeft 0 = 3 from rfl, ha]; simp)] at howner
    exact received_refused hr (by simp) howner

/-- A member of an IN SERVICE group is free when its station is available and its entry is logged in. -/
theorem memberFree_inService {s : State} {g : GroupId} (hs : (s.group g).service = .inService) (e : Member) :
    memberFree s g e = ((s.station e.station).available && e.loggedIn) := by
  simp [memberFree, hs]

/-- With a member free and every call of the queue below it, a call of the given priority rings at once. -/
theorem canRing_above {s : State} {g : GroupId} {c : CallId} {pr : Priority} (hany : anyFree s g = true)
    (hq : ∀ d, d ∈ (s.group g).queue → d ≠ c → (s.call d).priority < pr) (hc : c ∉ (s.group g).queue) :
    canRing s g c pr = true := by
  simp only [canRing, hany, Bool.and_true, List.all_eq_true, List.erase_of_not_mem hc, decide_eq_true_eq]
  exact fun d hd => hq d hd fun e => hc (e ▸ hd)

/-- The record of a new call that is offered to group `g` in state `s` and belongs to it, in place of a FREE one. -/
def newGroupCall (s : State) (g : GroupId) (pr : Priority) (ref : Half) (d : Call) : Call :=
  { Call.freed (nextGen d.gen) with
    hostRef := ref, kind := .group, priority := pr, offerTick := s.now, entryTick := s.now, home := some g, current := some g,
    overflowDl := afterOpt s.now (s.group g).cfg.overflowTicks }

theorem takeRecord_placed (s : State) (c : CallId) (g : GroupId) (pr : Priority) (ref : Half) :
    (takeRecord s c .group (some g) pr ref).modCall c (placed (takeRecord s c .group (some g) pr ref) g) =
      s.modCall c (newGroupCall s g pr ref) := modCall_modCall ..

/-- The arrival of a new call at an IN SERVICE group under LINEAR with a member available and no equal or higher call waiting. -/
theorem arrive_linear {s : State} {g : GroupId} {c : CallId} {m : Member} {pr : Priority} {ref : Half}
    (hs : (s.group g).service = .inService) (hl : (s.group g).cfg.method = .linear)
    (hfind : (s.group g).members.find? (fun e => (s.station e.station).available && e.loggedIn) = some m)
    (hc : c ∉ (s.group g).queue) (hq : ∀ d, d ∈ (s.group g).queue → (s.call d).priority < pr) :
    arrivalOk s c pr 3 g = true ∧
      arrive 3 (takeRecord s c .group (some g) pr ref) c g =
        (ringJoin (s.modCall c (newGroupCall s g pr ref)) c .group m.station).modCall c fun d =>
          { d with state := .ringing, ringDl := afterOpt s.now (s.group g).cfg.noAnswer } := by
  have hnight : nightTarget s g = none := nightTarget_none (by rw [hs]; decide)
  have hany : anyFree s g = true := by
    have hfun : memberFree s g = fun e => (s.station e.station).available && e.loggedIn := funext (memberFree_inService hs)
    rw [anyFree, hfun]
    exact List.any_eq_true.mpr ⟨m, List.mem_of_find?_eq_some hfind, by simpa using List.find?_some hfind⟩
  refine ⟨?_, ?_⟩
  · rw [arrivalOk_here 3 c pr hnight, canPlace, hs, canRing_above hany (fun d hd _ => hq d hd) hc]
    rfl
  let u := takeRecord s c .group (some g) pr ref
  let v := s.modCall c (newGroupCall s g pr ref)
  have hu : (u.call c).priority = pr := by rw [takeRecord_call]
  have hcall : v.call c = newGroupCall s g pr ref (s.call c) := State.modCall_same ..
  have havail : memberAvailable v g c = fun e => (s.station e.station).available && e.loggedIn := by
    funext e
    have htried : (v.call c).tried = [] := by rw [hcall]; rfl
    have hv : memberAvailable v g c e = ((v.station e.station).available && e.loggedIn) := by
      simp [memberAvailable, memberFree_inService (s := v) hs, htried]
    exact hv
  have hcan : canRing u g c (u.call c).priority = true := by
    rw [hu]
    refine canRing_above (s := u) hany (fun d hd hne => ?_) hc
    rw [takeRecord_call_ne _ _ _ _ _ hne]
    exact hq d hd
  rw [arrive_here (s := u) 3 c hnight, placeCall_rings hcan, takeRecord_placed]
  refine ringAvailable_linear (s := v) ?_ hl (by rw [havail]; exact hfind)
  rw [hcall]
  exact fun e => nomatch e

/-- O38's case of a LINEAR group with a member available and no equal or higher call waiting. -/
theorem groupOffer_rings {s : State} {h : Header} {target : Half} {priority : Byte} {ref : Half} {pr : Priority} {g : GroupId}
    {c : CallId} {m : Member} (hr : received s h 6) (hm : s.cl.mode = .run) (hp : readFin 4 priority.toNat = some pr)
    (hg : readFin 64 (target.toNat % 256) = some g) (hs : (s.group g).service = .inService) (hfree : (s.call c).state = .free)
    (hlow : ∀ d, d < c → (s.call d).state ≠ .free) (hl : (s.group g).cfg.method = .linear)
    (hfind : (s.group g).members.find? (fun e => (s.station e.station).available && e.loggedIn) = some m)
    (hc : c ∉ (s.group g).queue) (hq : ∀ d, d ∈ (s.group g).queue → (s.call d).priority < pr) :
    ∃ t, exec (.callOffer h 0 target priority ref) s = .next t ∧ (t.call c).state = .ringing ∧
        (t.call c).ringing = [m.station] ∧ (t.call c).ringDl = afterOpt s.sct.tick (s.group g).cfg.noAnswer ∧
        (t.call c).overflowDl = afterOpt s.sct.tick (s.group g).cfg.overflowTicks ∧
        t.station m.station = { s.station m.station with
          state := .ringing, call := some c, ringGen := nextGen (s.station m.station).ringGen } ∧
        (∀ y, y ≠ m.station → t.station y = s.station y) ∧ (∀ d, d ≠ c → t.call d = s.call d) ∧ t.de = s.de ∧
        t.pgc = s.pgc ∧ t.ag = s.ag ∧ t.flc = s.flc ∧ hasReply t 0x31 h .ok (enc8 c.val ++ [nextGen (s.call c).gen, 2]) := by
  obtain ⟨hok, harrive⟩ := arrive_linear (s := framerHunt s) (pr := pr) (ref := ref) hs hl hfind hc hq
  rw [arrivalOk_framerHunt] at hok
  have hexec := (groupOffer_taken (ref := ref) hr hm hp hg (by rw [hs]; decide) (by rw [hs]; decide) hfree hlow).1 hok
  rw [harrive] at hexec
  refine ⟨_, hexec, ?_⟩
  let v := (framerHunt s).modCall c (newGroupCall (framerHunt s) g pr ref)
  have hv : v.call c = newGroupCall (framerHunt s) g pr ref (s.call c) := State.modCall_same ..
  obtain ⟨hde, -, hpgc, hag, hflc, -⟩ := ringJoin_others v c .group m.station
  have hnew : ((ringJoin v c .group m.station).modCall c fun d =>
      { d with state := .ringing, ringDl := afterOpt s.sct.tick (s.group g).cfg.noAnswer }).call c =
      { newGroupCall (framerHunt s) g pr ref (s.call c) with
        state := .ringing, ringing := [m.station], ringDl := afterOpt s.sct.tick (s.group g).cfg.noAnswer } := by
    rw [State.modCall_same, ringJoin_call, if_pos rfl, hv]
    rfl
  have hstation (y : StationId) := ringJoin_station v c .group m.station y
  simp only [replied_call, replied_station, replied_de, replied_pgc, replied_ag, replied_flc]
  refine ⟨congrArg Call.state hnew, congrArg Call.ringing hnew, congrArg Call.ringDl hnew, congrArg Call.overflowDl hnew,
    (hstation _).trans (if_pos rfl), fun y hy => (hstation y).trans (if_neg hy), fun d hd => ?_, hde, hpgc, hag, hflc, ?_⟩
  · rw [State.modCall_ne _ _ hd, ringJoin_call, if_neg hd, State.modCall_ne _ _ hd]; rfl
  · have hfields : offerFields _ c = enc8 c.val ++ [nextGen (s.call c).gen, 2] :=
      congrArg (fun d : Call => enc8 c.val ++ [d.gen, d.state.code]) hnew
    rw [← hfields]
    exact replied_hasReply ..

/-- O38's case of an IN SERVICE group with room and no member available. -/
theorem groupOffer_queues {s : State} {h : Header} {target : Half} {priority : Byte} {ref : Half} {pr : Priority} {g : GroupId}
    {c : CallId} (hr : received s h 6) (hm : s.cl.mode = .run) (hp : readFin 4 priority.toNat = some pr)
    (hg : readFin 64 (target.toNat % 256) = some g) (hs : (s.group g).service = .inService) (hfree : (s.call c).state = .free)
    (hlow : ∀ d, d < c → (s.call d).state ≠ .free) (hany : anyFree s g = false)
    (hroom : ((s.group g).queue.erase c).length < (s.group g).cfg.queueLimit) :
    let u := (framerHunt s).modCall c (fun d => { Call.freed (nextGen d.gen) with
        hostRef := ref, kind := .group, priority := pr, offerTick := s.sct.tick, entryTick := s.sct.tick, home := some g,
        current := some g, overflowDl := afterOpt s.sct.tick (s.group g).cfg.overflowTicks })
    ∃ t, exec (.callOffer h 0 target priority ref) s = .next t ∧
        t = replied (queueJoin u g c) 0x31 h .ok (offerFields (queueJoin u g c) c) ∧
        (t.call c).state = .queued ∧ (t.call c).gen = nextGen (s.call c).gen ∧
        (t.group g).queue = insertBy (queuePrecedes u) c (s.group g).queue := by
  intro u
  let v := takeRecord (framerHunt s) c .group (some g) pr ref
  have hnight : nightTarget s g = none := nightTarget_none (by rw [hs]; decide)
  have hok : arrivalOk s c pr 3 g = true := by
    rw [arrivalOk_here 3 c pr hnight]
    simp [canPlace, hs, queueRoom, hroom]
  have hqueue : arrive 3 v c g = queueJoin u g c := by
    rw [arrive_here (s := v) 3 c hnight, placeCall_queues (canRing_noneFree (s := v) c _ hany), takeRecord_placed]
    rfl
  obtain ⟨hstate, hplace⟩ := queueJoin_effect u g c
  have hexec := (groupOffer_taken (ref := ref) hr hm hp hg (by rw [hs]; decide) (by rw [hs]; decide) hfree hlow).1 hok
  rw [hqueue] at hexec
  refine ⟨_, hexec, rfl, ?_, ?_, ?_⟩
  · rw [replied_call]; exact hstate
  · rw [replied_call, (queueJoin_quiet u g c).gens, State.modCall_same]; rfl
  · rw [replied_group]; exact hplace

/-- Settles O38: the owner's checks in order; the arrival at an IN SERVICE group is `placeCall`, which rings or queues. -/
theorem groupOffersArriveOrAreRefused : Obligations.GroupOffersArriveOrAreRefused := by
  unfold Obligations.GroupOffersArriveOrAreRefused
  intro h target priority ref s pr hr hm hp
  have direct {x : StationId} (hx : readStation target = some x) :=
    callOfferOwner_direct (s := framerHunt s) (ref := ref) (framerHunt_running hm) (readTarget_direct hx) hp
  have group {g : GroupId} (hg : readFin 64 (target.toNat % 256) = some g) :=
    callOfferOwner_group (s := framerHunt s) (ref := ref) (framerHunt_running hm) (readTarget_group hg) hp
  refine ⟨fun g c hg hu hc hfree hlow => groupOffer_taken hr hm hp hg hu hc hfree hlow,
    fun g c m hg hs hfree hlow hl hfind hc hq => groupOffer_rings hr hm hp hg hs hfree hlow hl hfind hc hq,
    fun g c hg hs hfree hlow hany hroom => groupOffer_queues hr hm hp hg hs hfree hlow hany hroom,
    fun x hx ha => ?_, fun x hx ha hnone => ?_, fun g hg hu hc hnone => ?_, fun g hg hs => ?_, fun g hg hs => ?_⟩
  · exact received_refused hr (by simp) ((direct hx).trans (if_pos (by simpa using ha)))
  · refine received_refused hr (by simp) ((direct hx).trans ?_)
    rw [if_neg (not_not_intro (by exact ha)), freeCallRecord_none (s := framerHunt s) hnone]
  · refine received_refused hr (by simp) ((group hg).trans ?_)
    rw [if_neg (by exact hu), if_neg (by exact hc), freeCallRecord_none (s := framerHunt s) hnone]
  · refine received_refused hr (by simp) ((group hg).trans ?_)
    rw [if_neg (by rw [framerHunt_group, hs]; decide), if_pos (by exact hs)]
  · exact received_refused hr (by simp) ((group hg).trans (if_pos hs))

end Sys2Proof.Machine
end

section
/-!
PROOFS. The warm restart (O10): every table of the state after it is a view of the table before it.
-/

namespace Sys2Proof.Machine

/-! ## Tables put together from tables -/

/-- A view of a table that a change of every entry keeps. -/
theorem mapTable_mapTable {α β : Type} {n : Nat} (f : α → α) (view : α → β) (v : Vector α n) (h : ∀ x, view (f x) = view x) :
    mapTable view (mapTable f v) = mapTable view v := by
  apply Vector.ext
  intro k hk
  have e1 := mapTable_get view (mapTable f v) ⟨k, hk⟩
  have e2 := mapTable_get f v ⟨k, hk⟩
  have e3 := mapTable_get view v ⟨k, hk⟩
  simp only [Fin.getElem_fin] at e1 e2 e3
  rw [e1, e2, h, e3]

/-- A view that gives back what a table was built from. -/
theorem mapTable_inverse {α β : Type} {n : Nat} (f : β → α) (view : α → β) (v : Vector β n) (h : ∀ x, view (f x) = x) :
    mapTable view (mapTable f v) = v := by
  apply Vector.ext
  intro k hk
  have e1 := mapTable_get view (mapTable f v) ⟨k, hk⟩
  have e2 := mapTable_get f v ⟨k, hk⟩
  simp only [Fin.getElem_fin] at e1 e2
  rw [e1, e2, h]

theorem mapTable_replicate {α β : Type} {n : Nat} (f : α → β) (x : α) :
    mapTable f (Vector.replicate n x) = Vector.replicate n (f x) := by
  apply Vector.ext
  intro k hk
  have e := mapTable_get f (Vector.replicate n x) ⟨k, hk⟩
  simp only [Fin.getElem_fin] at e
  rw [e]
  simp

/-! ## The link after a start -/

/-- After a start the transmitter takes STARTED at once. -/
theorem finish_started {s : State} {cause : StartCause} {result : StoreResult} (h : s.cl = Cl.started cause result) :
    finish s = { s with cl := { Cl.started cause result with
      reports := [], tx := .sending (.report (.started cause result)) } } := by
  simp [finish, chooseFrame, h, Cl.started, State.modCl]

/-! ## The warm restart -/

theorem warmRestart_call (s : State) (c : CallId) : (warmRestart s).call c = Call.freed (s.call c).gen :=
  (finish_call _ c).trans (mapTable_get ..)
theorem warmRestart_station (s : State) (x : StationId) : (warmRestart s).station x = (s.station x).warm s.now :=
  (finish_station _ x).trans (mapTable_get ..)
theorem warmRestart_group (s : State) (g : GroupId) : (warmRestart s).group g = (s.group g).warm :=
  (finish_group _ g).trans (mapTable_get ..)
theorem warmRestart_pickup (s : State) (p : PickupId) : (warmRestart s).pickup p = { s.pickup p with ring := [] } :=
  (finish_pickup _ p).trans (mapTable_get ..)
theorem warmRestart_orbit (s : State) (o : OrbitId) : (warmRestart s).orbit o = Orbit.freed (s.orbit o).gen :=
  (finish_orbit _ o).trans (mapTable_get ..)
theorem warmRestart_pageGroup (s : State) (g : PageGroupId) :
    (warmRestart s).pageGroup g = { s.pageGroup g with referenced := false } :=
  (finish_pageGroup _ g).trans (mapTable_get ..)
theorem warmRestart_page (s : State) (p : PageId) : (warmRestart s).page p = Page.ended (s.page p).gen :=
  (finish_page _ p).trans (mapTable_get ..)
theorem warmRestart_bus (s : State) (b : BusId) : (warmRestart s).bus b = Bus.free :=
  (finish_bus _ b).trans (Vector.getElem_replicate ..)
theorem warmRestart_channel (s : State) (k : ChannelId) :
    (warmRestart s).channel k = Channel.stopped (s.channel k).slotA (s.channel k).slotB s.now :=
  (finish_channel _ k).trans (mapTable_get ..)
theorem warmRestart_fieldModule (s : State) (m : ModuleId) : (warmRestart s).fieldModule m = (s.fieldModule m).warm :=
  (finish_fieldModule _ m).trans (mapTable_get ..)
theorem warmRestart_zone (s : State) (z : ZoneId) : (warmRestart s).zone z = (s.zone z).warm :=
  (finish_zone _ z).trans (mapTable_get ..)

/-- The pending broadcast after a warm restart: all outputs off, when some output was on. -/
theorem warmRestart_alert (s : State) : (warmRestart s).flc.alert =
    if (List.finRange 16).any fun k => (s.channel k).output then some 0 else none :=
  congrArg Flc.alert (finish_flc _)

/-- The Control Link after a warm restart. -/
theorem warmRestart_cl (s : State) : (warmRestart s).cl = { Cl.started .restart s.cs.state.result with
    reports := [], tx := .sending (.report (.started .restart s.cs.state.result)) } :=
  congrArg State.cl (finish_started rfl)

/-- The stored fields of a station are those it had. -/
theorem Station.warm_view (now : Tick) (t : Station) :
    (t.warm now).cfg = t.cfg ∧ (t.warm now).dnd = t.dnd ∧ (t.warm now).memberships = t.memberships := by
  unfold Station.warm; split <;> exact ⟨rfl, rfl, rfl⟩

/-- The warm restart keeps every configured field. -/
theorem warmRestart_tables (s : State) : tables (warmRestart s) = tables s := by
  have hstations : mapTable (fun t : Station => ({ cfg := t.cfg, dnd := t.dnd, memberships := t.memberships } : StationImage))
      (mapTable (Station.warm s.now) s.sct.stations) = _ :=
    mapTable_mapTable _ _ _ fun t => by
      obtain ⟨hcfg, hdnd, hmem⟩ := Station.warm_view s.now t
      rw [hcfg, hdnd, hmem]
  have hgroups : mapTable Quiet.groupView (mapTable Group.warm s.de.groups) = mapTable Quiet.groupView s.de.groups :=
    mapTable_mapTable _ _ _ fun g => groupView_members g _ fun _ => rfl
  have hlinks : mapTable PickupGroup.links (mapTable (fun p => { p with ring := [] }) s.ppu.pickups) = _ :=
    mapTable_mapTable _ PickupGroup.links _ fun _ => rfl
  have hpageGroups : mapTable PageGroup.cfg (mapTable (fun p => { p with referenced := false }) s.pdir.pageGroups) = _ :=
    mapTable_mapTable _ PageGroup.cfg _ fun _ => rfl
  have hslots : mapTable (fun c : Channel => (c.slotA, c.slotB))
      (mapTable (fun c => Channel.stopped c.slotA c.slotB s.now) s.ag.channels) = _ :=
    mapTable_mapTable _ _ _ fun _ => rfl
  have htypes : mapTable FieldModule.configured (mapTable FieldModule.warm s.flc.modules) = _ :=
    mapTable_mapTable _ _ _ fun _ => rfl
  simp only [tables, imageOf, warmRestart, finish_sct, finish_de, finish_ppu, finish_pdir, finish_ag, finish_flc, hstations,
    Image.mk.injEq, true_and, and_true]
  exact ⟨hgroups, hlinks, hpageGroups, hslots, htypes⟩

/-- What a warm restart makes of a station. -/
theorem Station.warm_fields (now : Tick) (t : Station) :
    (t.warm now).state = (if t.state = .out then .out else .idle) ∧ (t.warm now).call = none ∧ (t.warm now).wrapupDl = none ∧
      (t.warm now).voicePage = none ∧ (t.warm now).ringGen = t.ringGen ∧ (t.warm now).dnd = t.dnd ∧ (t.warm now).cfg = t.cfg ∧
      (t.state ≠ .out → (t.warm now).idleSince = now) := by
  unfold Station.warm
  split
  · rename_i h; exact ⟨h, rfl, rfl, rfl, rfl, rfl, rfl, fun hne => absurd h hne⟩
  · exact ⟨rfl, rfl, rfl, rfl, rfl, rfl, rfl, fun _ => rfl⟩

/-- What a warm restart makes of a group's live fields. -/
theorem Group.warm_fields (g : Group) :
    g.warm.queue = [] ∧ g.warm.circ = 0 ∧ g.warm.ann = AnnLive.reset ∧ g.warm.beacon = BeaconLive.reset ∧
      ∀ m, m ∈ g.warm.members → m.credit = 0 ∧ m.offered = false ∧ m.loggedIn = g.cfg.autoLogin := by
  refine ⟨rfl, rfl, rfl, rfl, fun m hm => ?_⟩
  obtain ⟨e, -, rfl⟩ := List.mem_map.mp hm
  exact ⟨rfl, rfl, rfl⟩

/-- Settles O10: each record of the state after the restart is the old one, made over by its block's rule. -/
theorem warmRestartKeepsTablesAndGenerations : Obligations.WarmRestartKeepsTablesAndGenerations := by
  unfold Obligations.WarmRestartKeepsTablesAndGenerations
  intro s hs
  have hcl := warmRestart_cl s
  refine ⟨warmRestart s, congrArg _ (if_pos hs), warmRestart_tables s, finish_cs _, by simp only [warmRestart, finish_sct, State.now],
    finish_pending _, warmRestart_call s, fun x => ?_, fun g => ?_, warmRestart_orbit s, congrArg Ppu.freeOrder (finish_ppu _),
    fun p => congrArg PickupGroup.ring (warmRestart_pickup s p), fun g => congrArg PageGroup.referenced (warmRestart_pageGroup s g),
    warmRestart_page s, congrArg Pgc.queue (finish_pgc _), warmRestart_bus s, warmRestart_channel s, warmRestart_fieldModule s,
    warmRestart_zone s, ?_, ?_, congrArg Flc.line (finish_flc _), congrArg Flc.scanPos (finish_flc _),
    by simp only [warmRestart, finish_flc], congrArg Cl.replies hcl, congrArg Cl.reports hcl, congrArg Cl.lost hcl,
    congrArg Cl.mode hcl, congrArg Cl.restart hcl, congrArg Cl.tx hcl, congrArg Cl.framer hcl, congrArg Cl.startCause hcl⟩
  · rw [warmRestart_station]; exact Station.warm_fields s.now _
  · rw [warmRestart_group]; exact Group.warm_fields _
  · rw [warmRestart_alert]; simp
  · rw [warmRestart_alert]; simp

end Sys2Proof.Machine
end

section
/-!
PROOFS. The cold reset (O11): the state after it, with the choices of the line arbiter and of the transmitter made.
-/

namespace Sys2Proof.Machine

/-! ## The cold reset -/

/-- With every module ABSENT no route waits. -/
theorem routeWaiting_none {s : State} (hm : ∀ m, (s.fieldModule m).state = .absent) : routeWaiting s = none :=
  List.find?_eq_none.mpr fun m _ => by simp [hm m]

/-- The line arbiter's first choice: with every module ABSENT and no broadcast pending, the IDENTIFY to address 0. -/
theorem lineArbiter_first {s : State} (ha : s.flc.alert = none) (hm : ∀ m, (s.fieldModule m).state = .absent)
    (hp : s.flc.scanPos = 0) (hc : s.flc.scanCounter = 0) :
    lineArbiter s =
      { s with flc := { s.flc with line := .exchange 0 .identify false, scanPos := 0, scanCounter := 0 } } := by
  have hwalk : scanWalk s scanFuel 0 0 = some (0, 0, .identify) := by
    rw [show scanFuel = 407 + 1 from rfl, scanWalk_address0, scanTakes, hm]
    rfl
  rw [lineArbiter, ha]
  dsimp only
  rw [routeWaiting_none hm]
  dsimp only
  rw [scanStep, hp, hc, hwalk]

/-- The machine after a cold reset with the two first choices made (R151, R169): the IDENTIFY to address 0 is on the field line,
and the transmitter has taken STARTED. -/
def coldState (s : State) (cause : StartCause) : State :=
  let i := s.cs.loaded
  { sct := { State.reset.sct with stations := mapTable StationImage.load i.stations }
    de := { groups := mapTable GroupImage.load i.groups }
    ppu := { State.reset.ppu with pickups := mapTable (fun l => { links := l, ring := [] }) i.links, classes := i.classes }
    pdir := {
      directories := i.directories
      entries := i.entries
      pageGroups := mapTable (fun p => { cfg := p, referenced := false }) i.pageGroups }
    pgc := State.reset.pgc
    ag := { channels := mapTable (fun v => Channel.stopped v.1 v.2 0) i.slots }
    flc := { State.reset.flc with modules := mapTable FieldModule.absent i.types }
    cs := s.cs.coldLoad
    cl := { State.reset.cl with
      tx := .sending (.report (.started cause s.cs.coldLoad.state.result)), startCause := cause }
    pending := s.pending }

theorem coldReset_eq (s : State) (cause : StartCause) : coldReset s cause = coldState s cause := by
  unfold coldReset
  dsimp only
  have habsent (m : ModuleId) : (mapTable FieldModule.absent s.cs.loaded.types)[m].state = .absent := by rw [mapTable_get]; rfl
  refine Eq.trans (congrArg finish (lineArbiter_first ?_ ?_ ?_ ?_)) ?_
  · rfl
  · exact habsent
  · rfl
  · rfl
  · exact (finish_started rfl).trans rfl

theorem exec_powerOn (s : State) : exec .powerOn s = .next (coldState s .power) := by
  rw [← coldReset_eq]; rfl
theorem exec_resetPin (s : State) : exec .resetPin s = .next (coldState s .pin) := by
  rw [← coldReset_eq]; rfl

/-- With a bad sum the tables are the empty defaults, which are those of the reset state. -/
theorem coldState_bad {s : State} (cause : StartCause) (h : s.cs.good = false) :
    coldState s cause = { State.reset with
      pending := s.pending
      cs := { State.reset.cs with image := s.cs.image, sum := s.cs.sum }
      cl := { State.reset.cl with startCause := cause, tx := .sending (.report (.started cause .invalid)) } } := by
  unfold coldState
  rw [Cs.loaded_bad h, Cs.coldLoad_bad h]
  simp only [Image.empty, mapTable_replicate]
  rfl

/-- With a good sum every table is the image's. -/
theorem coldState_tables {s : State} (cause : StartCause) (h : s.cs.good = true) :
    tables (coldState s cause) = { s.cs.image with saveCount := 0 } := by
  simp only [tables, imageOf, coldState, Cs.loaded_good h, Image.mk.injEq, true_and, and_true]
  refine ⟨mapTable_inverse _ _ _ fun _ => rfl, mapTable_inverse _ _ _ fun g => ?_, mapTable_inverse _ _ _ fun _ => rfl,
    mapTable_inverse _ _ _ fun _ => rfl, mapTable_inverse _ _ _ fun _ => rfl, mapTable_inverse _ _ _ fun _ => rfl⟩
  have hmem : (g.load.members.map fun m => (m.station, m.weight)) = g.members := by simp [GroupImage.load, Function.comp_def]
  rw [hmem]
  rfl

/-- What a cold load makes of a group's share of the image. -/
theorem GroupImage.load_member {i : GroupImage} {m : Member} (hm : m ∈ i.load.members) :
    m.loggedIn = i.cfg.autoLogin ∧ m.credit = 0 ∧ m.offered = false := by
  obtain ⟨e, -, rfl⟩ := List.mem_map.mp hm
  exact ⟨rfl, rfl, rfl⟩

/-- Settles O11: `coldState` with the defaults for a bad sum, and with the image for a good one. -/
theorem coldResetsLoadTheStore : Obligations.ColdResetsLoadTheStore := by
  unfold Obligations.ColdResetsLoadTheStore
  refine ⟨fun c => by simp [Cs.good], fun s h => ⟨?_, ?_⟩, fun s i h hi => ?_⟩
  · rw [exec_powerOn, coldState_bad .power h]; rfl
  · rw [exec_resetPin, coldState_bad .pin h]
  subst hi
  have hload := Cs.coldLoad_good h
  have hcl (cause : StartCause) : (coldState s cause).cl = { State.reset.cl with
      startCause := cause, tx := .sending (.report (.started cause .valid)) } := by
    simp only [coldState, hload, StoreState.result]
  have hstation (x : StationId) : (coldState s .power).station x = s.cs.image.stations[x].load := by
    rw [← Cs.loaded_good h]; exact mapTable_get ..
  have hgroup (g : GroupId) : (coldState s .power).group g = s.cs.image.groups[g].load := by
    rw [← Cs.loaded_good h]; exact mapTable_get ..
  refine ⟨coldState s .power, exec_powerOn s, ?_, coldState_tables .power h, hload, rfl, fun x => ?_, fun g m hm => ?_, fun g => ?_,
    fun p => congrArg PickupGroup.ring (mapTable_get ..), fun g => congrArg PageGroup.referenced (mapTable_get ..), fun k => ?_,
    rfl, rfl, rfl, rfl, rfl, rfl, rfl, rfl, rfl, fun m => ?_, hcl .power, rfl⟩
  · rw [exec_resetPin]
    refine congrArg _ ?_
    have hpin := hcl .pin
    have hpower := hcl .power
    rw [hpower]
    show ({ coldState s .power with cl := (coldState s .pin).cl } : State) = _
    rw [hpin]
  · rw [hstation]; exact ⟨rfl, rfl, rfl, rfl, rfl, rfl⟩
  · exact GroupImage.load_member (hgroup g ▸ hm)
  · rw [hgroup]; exact ⟨rfl, rfl, rfl, rfl⟩
  · rw [← Cs.loaded_good h]; exact mapTable_get ..
  · rw [← Cs.loaded_good h]; exact mapTable_get ..

end Sys2Proof.Machine
end

section
/-!
PROOFS. Hunt groups and their members: GROUP SET (O24), MEMBER ADD and MEMBER REMOVE (O25), MEMBER LOGIN and MEMBER LOGOUT (O42).
-/

namespace Sys2Proof.Machine

/-! ## GROUP SET -/

/-- Two changes that agree on the group as it stands are one. -/
theorem State.modGroup_congr {s : State} {g : GroupId} {f k : Group → Group} (h : f (s.group g) = k (s.group g)) :
    s.modGroup g f = s.modGroup g k := by
  have hf : f s.de.groups[g] = k s.de.groups[g] := h
  simp only [State.modGroup, upd, hf]

theorem writeGroup_unused {v : GroupCfg} {r : Group} (h : r.service = .unused) :
    writeGroup v r = { r with service := .inService, cfg := v, members := [], queue := [], circ := 0 } := if_pos h

theorem writeGroup_sameMethod {v : GroupCfg} {r : Group} (h : r.service ≠ .unused) (hm : v.method = r.cfg.method) :
    writeGroup v r = { r with cfg := v } := by
  rw [writeGroup, if_neg h, if_pos hm]

theorem writeGroup_newMethod {v : GroupCfg} {r : Group} (h : r.service ≠ .unused) (hm : v.method ≠ r.cfg.method) :
    writeGroup v r =
      { r with cfg := v, circ := 0, members := r.members.map fun m => { m with credit := 0, offered := false } } := by
  rw [writeGroup, if_neg h, if_neg hm]
  rfl

theorem groupHasCalls_iff {s : State} {g : GroupId} :
    groupHasCalls s g = true ↔ ∃ c, (s.call c).state ≠ .free ∧ (s.call c).current = some g := by
  simp [groupHasCalls]

theorem groupInUse_iff {s : State} {g : GroupId} :
    groupInUse s g = true ↔ (s.group g).members ≠ [] ∨ (∃ c, (s.call c).state ≠ .free ∧ (s.call c).current = some g) ∨
      (s.group g).ann.state ≠ .idle ∨ (s.group g).beacon.state ≠ .off := by
  simp [groupInUse, ← groupHasCalls_iff, or_assoc]

section
variable {s : State} {b : GroupSetBody} {g : GroupId} {v : GroupCfg}

theorem groupSetOwner_write (hg : readFin 64 b.group.toNat = some g) (hs : s.isSaving = false) (ha : b.action = 0)
    (hv : readGroupCfg g b = some v) (hq : (s.group g).queue.length ≤ v.queueLimit) :
    groupSetOwner b s = .ok (s.modGroup g (writeGroup v)) [(writeGroup v (s.group g)).service.code] := by
  simp [groupSetOwner, hg, ha, hv, hs, Nat.not_lt.mpr hq]

theorem groupSetOwner_queueTooLong (hg : readFin 64 b.group.toNat = some g) (hs : s.isSaving = false) (ha : b.action = 0)
    (hv : readGroupCfg g b = some v) (hq : v.queueLimit < (s.group g).queue.length) :
    groupSetOwner b s = .refuse .inUse := by
  simp [groupSetOwner, hg, ha, hv, hs, hq]

theorem groupSetOwner_delete (hg : readFin 64 b.group.toNat = some g) (hs : s.isSaving = false) (ha : b.action = 1)
    (hu : groupInUse s g = false) (hsv : (s.group g).service ≠ .unused) :
    groupSetOwner b s = .ok (s.modGroup g fun _ => Group.reset) [0] := by
  simp [groupSetOwner, hg, ha, hs, hu, hsv, ServiceState.code]

theorem groupSetOwner_inUse (hg : readFin 64 b.group.toNat = some g) (hs : s.isSaving = false) (ha : b.action = 1)
    (hu : groupInUse s g = true) : groupSetOwner b s = .refuse .inUse := by
  simp [groupSetOwner, hg, ha, hs, hu]

end

/-- Settles O24: a WRITE is one `writeGroup`, which has a case for an UNUSED group, one for a method that stays and one for a method
that changes; a DELETE asks `groupInUse`. -/
theorem groupSetWritesOrDeletes : Obligations.GroupSetWritesOrDeletes := by
  unfold Obligations.GroupSetWritesOrDeletes
  intro h b s g hr hg hsave
  have written {v : GroupCfg} {f : Group → Group} (ha : b.action = 0) (hv : readGroupCfg g b = some v)
      (hq : (s.group g).queue.length ≤ v.queueLimit) (hw : writeGroup v (s.group g) = f (s.group g)) :
      exec (.groupSet h b) s =
        .next (replied ((framerHunt s).modGroup g f) 0x02 h .ok [(f (s.group g)).service.code]) := by
    have ho := groupSetOwner_write (s := framerHunt s) hg hsave ha hv hq
    rw [State.modGroup_congr (s := framerHunt s) hw] at ho
    rw [← hw]
    exact received_taken hr (by simp) ho
  refine ⟨fun v ha hv hq => ⟨fun hu => ?_, fun hu hm => ?_, fun hu hm => ?_⟩, fun v ha hv hq => ?_,
    fun ha hsv hmem hcalls hann hbeacon => ?_, fun ha huse => ?_⟩
  · exact written ha hv hq (writeGroup_unused hu)
  · exact written ha hv hq (writeGroup_sameMethod hu hm)
  · exact written ha hv hq (writeGroup_newMethod hu hm)
  · exact received_refused hr (by simp) (groupSetOwner_queueTooLong (s := framerHunt s) hg hsave ha hv hq)
  · have hidle : groupInUse (framerHunt s) g = false := by
      refine Bool.eq_false_iff.mpr fun hu => ?_
      rcases groupInUse_iff.mp hu with hm | ⟨c, hlive, hcur⟩ | ha' | hb'
      · exact hm hmem
      · exact (hcalls c).elim hlive (fun hc => hc hcur)
      · exact ha' hann
      · exact hb' hbeacon
    exact received_taken hr (by simp) (groupSetOwner_delete (s := framerHunt s) hg hsave ha hidle hsv)
  · exact received_refused hr (by simp) (groupSetOwner_inUse (s := framerHunt s) hg hsave ha (groupInUse_iff.mpr huse))

/-! ## Member entries -/

/-- The index of a station's entry in a member list that holds one. -/
theorem entryOf_index {r : Group} {x : StationId} (h : entryOf r x ≠ none) :
    ∃ i, r.members.findIdx? (fun m => m.station == x) = some i ∧ i < r.members.length := by
  cases hi : r.members.findIdx? (fun m => m.station == x) with
  | none => exact absurd (List.find?_eq_none.mpr fun m hm => by simpa using List.findIdx?_eq_none_iff.mp hi m hm) h
  | some i => exact ⟨i, rfl, (List.findIdx?_eq_some_iff_findIdx_eq.mp hi).1⟩

theorem resetMembers_reset {ms : List Member} {m : Member} (h : m ∈ resetMembers ms) : m.credit = 0 ∧ m.offered = false := by
  obtain ⟨e, -, rfl⟩ := List.mem_map.mp h
  exact ⟨rfl, rfl⟩

/-- The group that loses the entry at index `i`. -/
theorem dropMember_group {s : State} {g : GroupId} {x : StationId} {i : Nat}
    (hi : (s.group g).members.findIdx? (fun m => m.station == x) = some i) :
    (dropMember s g x).group g =
      { s.group g with
        members := resetMembers ((s.group g).members.eraseIdx i)
        circ := circAfterRemove (s.group g).circ i ((s.group g).members.length - 1) } := by
  simp [dropMember, hi]

theorem dropMember_group_ne (s : State) {f g : GroupId} (x : StationId) (h : f ≠ g) :
    (dropMember s g x).group f = s.group f :=
  State.modGroup_ne s _ h

theorem dropMember_memberships (s : State) (g : GroupId) (x : StationId) :
    ((dropMember s g x).station x).memberships = (s.station x).memberships.erase g := by
  simp [dropMember]

theorem dropMember_station_ne (s : State) (g : GroupId) {x y : StationId} (h : y ≠ x) :
    (dropMember s g x).station y = s.station y :=
  State.modStation_ne _ _ h

theorem circAfterRemove_before {p i left : Nat} (hi : i < p) (hl : 0 < left) : circAfterRemove p i left = p - 1 := by
  rw [circAfterRemove, if_neg hl.ne', if_pos hi]

theorem circAfterRemove_at {p left : Nat} (hl : 0 < left) :
    circAfterRemove p p left = if 0 < p then p - 1 else left - 1 := by
  rw [circAfterRemove, if_neg hl.ne', if_neg (Nat.lt_irrefl p), if_pos rfl]

theorem circAfterRemove_after {p i left : Nat} (hi : p < i) (hl : 0 < left) : circAfterRemove p i left = p := by
  rw [circAfterRemove, if_neg hl.ne', if_neg hi.not_gt, if_neg hi.ne']

theorem removeMember_still {s : State} {g : GroupId} {x : StationId} (h : ringsForGroup s x g = none) :
    removeMember s g x = offer (dropMember s g x) x := by
  simp only [removeMember, h]

theorem removeMember_ringing {s : State} {g : GroupId} {x : StationId} {c : CallId} (h : ringsForGroup s x g = some c) :
    removeMember s g x = offer (leaveWithoutTried (dropMember (ringLeave s c .idle x) g x) c g) x := by
  simp only [removeMember, h]

theorem memberRemoveOwner_ok {s : State} {group : Byte} {station : Half} {g : GroupId} {x : StationId}
    (hg : readFin 64 group.toNat = some g) (hx : readStation station = some x) (hu : (s.group g).service ≠ .unused)
    (hs : s.isSaving = false) (he : entryOf (s.group g) x ≠ none) :
    memberRemoveOwner group station s = .ok (removeMember s g x) (enc16 (poolFree (removeMember s g x))) := by
  simp [memberRemoveOwner, hg, hx, hu, hs, he]

theorem memberAddOwner_ok {s : State} {group : Byte} {station : Half} {weight listPos prefPos : Byte} {g : GroupId}
    {x : StationId} {w pos pref : Nat} (hg : readFin 64 group.toNat = some g) (hx : readStation station = some x)
    (hw : readRange 1 8 weight.toNat = some w) (hpos : readPosition 31 (s.group g).members.length listPos = some pos)
    (hpref : readPosition 3 (s.station x).memberships.length prefPos = some pref) (hu : (s.group g).service ≠ .unused)
    (hs : s.isSaving = false) (he : entryOf (s.group g) x = none) (hfull : (s.group g).members.length < 32)
    (hlimit : (s.station x).memberships.length < 4) (hpool : poolFree s ≠ 0) :
    memberAddOwner group station weight listPos prefPos s =
      .ok (if (s.group g).cfg.autoLogin then offer (addMember s g x w pos pref) x else addMember s g x w pos pref)
        (enc8 pos ++ enc16 (poolFree (addMember s g x w pos pref))) := by
  simp [memberAddOwner, hg, hx, hw, hpos, hpref, hu, hs, he, Nat.not_le.mpr hfull, Nat.not_le.mpr hlimit, hpool]

/-- Settles O25: MEMBER ADD is one `addMember`; MEMBER REMOVE is one `removeMember`, whose `dropMember` takes the entry out at its
index. -/
theorem memberEntriesComeAndGo : Obligations.MemberEntriesComeAndGo := by
  unfold Obligations.MemberEntriesComeAndGo
  refine ⟨?_, fun h group station s g x hr hg hx hu hsave he => ?_⟩
  · intro h group station weight listPos prefPos s g x w pos pref hr hg hx hw hpos hpref hu hsave he hfull hlimit hpool
    exact received_taken hr (by simp)
      (memberAddOwner_ok (s := framerHunt s) hg hx hw hpos hpref hu hsave he hfull hlimit hpool)
  have done : exec (.memberRemove h group station) s = .next (replied (removeMember (framerHunt s) g x) 0x04 h .ok
      (enc16 (poolFree (removeMember (framerHunt s) g x)))) :=
    received_taken hr (by simp) (memberRemoveOwner_ok (s := framerHunt s) hg hx hu hsave he)
  obtain ⟨i, hi, hlt⟩ := entryOf_index he
  have hgroup := dropMember_group hi
  refine ⟨fun hring => ?_, fun c hring => ?_, ?_, ?_, fun j hj => ?_, fun m hm => ?_, dropMember_memberships s g x,
    fun f hf => dropMember_group_ne s x hf, fun y hy => dropMember_station_ne s g hy⟩
  · rw [done, removeMember_still (s := framerHunt s) hring]
  · rw [done, removeMember_ringing (s := framerHunt s) hring]
  · rw [hgroup]
  · rw [hgroup]
    simp only [resetMembers, List.length_map, List.length_eraseIdx_of_lt hlt]
    omega
  · obtain rfl : i = j := Option.some.inj (hi.symm.trans hj)
    rw [hgroup]
    refine ⟨fun hp hl => circAfterRemove_before hp hl, fun hp h0 hl => ?_, fun hp h0 hl => ?_, fun hp => ?_, fun hl => if_pos hl⟩
    · exact hp ▸ (circAfterRemove_at hl).trans (if_pos (hp ▸ h0))
    · exact hp ▸ (circAfterRemove_at hl).trans (if_neg (by omega))
    · exact circAfterRemove_after hp (by omega)
  · rw [hgroup] at hm
    exact resetMembers_reset hm

/-! ## MEMBER LOGIN and MEMBER LOGOUT -/

/-- A login flag is a group's matter: the stations and the calls are as they were. -/
theorem setLogin_sct (s : State) (x : StationId) (v : Bool) (gs : List GroupId) : (setLogin s x v gs).sct = s.sct := by
  induction gs generalizing s with
  | nil => rfl
  | cons g gs ih => exact ih _

/-- Whether a station rings for a group is read from the Station and Call Table alone. -/
theorem ringsForGroup_congr {s t : State} (h : t.sct = s.sct) (x : StationId) (g : GroupId) :
    ringsForGroup t x g = ringsForGroup s x g := by
  unfold ringsForGroup State.station State.call
  rw [h]

/-- A logout of a station that rings for none of the groups left stops nothing. -/
theorem logoutRing_still {s : State} {x : StationId} {gs : List GroupId} (h : ∀ g, g ∈ gs → ringsForGroup s x g = none) :
    logoutRing s x gs = s := by
  have hnone : (gs.findSome? fun g => (ringsForGroup s x g).map fun c => (g, c)) = none :=
    List.findSome?_eq_none_iff.mpr fun g hg => by rw [h g hg]; rfl
  simp only [logoutRing, hnone]

section
variable {s : State} {station : Half} {group : Byte} {x : StationId} {target : Option GroupId}

theorem loginCheck_ok {gs : List GroupId} (hm : s.running = true) (hx : readStation station = some x)
    (hg : readOpt 64 group = some target) (hl : loginGroups s x target = some gs) : loginCheck s station group = .ok (x, gs) := by
  simp only [loginCheck, hm, hx, hg, hl, not_true_eq_false, if_false]

theorem loginCheck_notMember (hm : s.running = true) (hx : readStation station = some x) (hg : readOpt 64 group = some target)
    (hl : loginGroups s x target = none) : loginCheck s station group = .error .notMember := by
  simp only [loginCheck, hm, hx, hg, hl, not_true_eq_false, if_false]

end

/-- Settles O42: both requests make `loginCheck` and then set the flags that differ; the ring that a logout stops is looked for in the
Station and Call Table, which the flags leave alone. -/
theorem loginsSetTheirFlags : Obligations.LoginsSetTheirFlags := by
  unfold Obligations.LoginsSetTheirFlags
  intro h station group s x target hr hm hx hg
  have hrun := framerHunt_running hm
  refine ⟨fun gs hgs => ?_, fun hno => ?_⟩
  · have hcheck := loginCheck_ok (s := framerHunt s) hrun hx hg hgs
    have login : exec (.memberLogin h station group) s =
        let changed := loginChanges s x true gs
        let t := setLogin (framerHunt s) x true changed
        .next (replied (if changed = [] then t else offer t x) 0x33 h .ok (enc8 changed.length)) :=
      received_taken hr (by simp) (by rw [memberLoginOwner, hcheck]; rfl)
    have logout : exec (.memberLogout h station group) s =
        let changed := loginChanges s x false gs
        .next (replied (logoutRing (setLogin (framerHunt s) x false changed) x changed) 0x34 h .ok (enc8 changed.length)) :=
      received_taken hr (by simp) (by rw [memberLogoutOwner, hcheck]; rfl)
    refine ⟨⟨fun hc => ?_, fun hc => ?_⟩, fun hring => ?_, logout⟩
    · dsimp only at login
      rw [if_pos hc] at login
      rw [login, hc]
      rfl
    · dsimp only at login
      rwa [if_neg hc] at login
    · rw [logout]
      dsimp only
      rw [logoutRing_still fun g hgc => (ringsForGroup_congr (setLogin_sct (framerHunt s) x false _) x g).trans (hring g hgc)]
  · have hcheck := loginCheck_notMember (s := framerHunt s) hrun hx hg hno
    exact ⟨received_refused hr (by simp) (by rw [memberLoginOwner, hcheck]),
      received_refused hr (by simp) (by rw [memberLogoutOwner, hcheck])⟩

end Sys2Proof.Machine
end

section
/-!
PROOFS. The deadlines of group calls (O41): what each expiry comes to, and the outcomes of a redirect.
-/

namespace Sys2Proof.Machine

/-! ## Deadlines of group calls -/

section
variable {s : State} {c : CallId} {g : GroupId}

theorem ringDueGroup_due (hs : (s.call c).state = .ringing) (hk : (s.call c).kind = .group)
    (hd : due s.now (s.call c).ringDl = true) : ringDueGroup s c = (s.call c).current := if_pos ⟨hs, hk, hd⟩

theorem ringAllNoAnswer_noOverflow (ho : (s.group g).cfg.overflowGroup = none) :
    ringAllNoAnswer s c g = s.modCall c fun d => { d with ringDl := none } := by
  simp [ringAllNoAnswer, ho]

/-- The redirect of a RING ALL call fails: its stations ring on. -/
theorem ringAllNoAnswer_fails {d : GroupId} {why : RedirectFail} (ho : (s.group g).cfg.overflowGroup = some d)
    (ht : redirectTest (s.modCall c fun d => { d with ringDl := none }) c d = some why) :
    ringAllNoAnswer s c g = redirectFails (s.modCall c fun d => { d with ringDl := none }) c g d why := by
  simp only [ringAllNoAnswer, State.modCall_group, ho, ht]

theorem ringAllNoAnswer_redirects {d : GroupId} (ho : (s.group g).cfg.overflowGroup = some d)
    (ht : redirectTest (s.modCall c fun d => { d with ringDl := none }) c d = none) :
    ringAllNoAnswer s c g = offerAll
      (redirect (ringLeaveAll (s.modCall c fun d => { d with ringDl := none }) c (s.call c).ringing) c g d
        (.overflow .ringAll)).1 (s.call c).ringing := by
  simp only [ringAllNoAnswer, State.modCall_group, ho, ht, State.modCall_same]

theorem redirect_fails {d : GroupId} {why : RedirectFail} (k : RedirectKind) (ht : redirectTest s c d = some why) :
    redirect s c g d k = (redirectFails s c g d why, false) := by
  simp only [redirect, ht]

theorem redirect_made {d : GroupId} (k : RedirectKind) (ht : redirectTest s c d = none) :
    redirect s c g d k = (arrive (hopsLeft ((s.call c).redirects + 1))
      (moveOut (leaveQueueIfQueued s c) c g (k.event d)) c d, true) := by
  simp only [redirect, ht]

/-- A failed redirect clears the overflow deadline and reports the call as it stood. -/
theorem redirectFails_eq (s : State) (c : CallId) (g d : GroupId) (why : RedirectFail) :
    redirectFails s c g d why = queueReport (s.modCall c fun e => { e with overflowDl := none })
      (.queueState g (.redirectFailed { call := c, gen := (s.call c).gen, redirects := (s.call c).redirects } d why)
        (s.group g).queue.length) := by
  simp only [redirectFails, queueNotice, callRef, State.modCall_same, State.modCall_group]

theorem overflowQueued_noOverflow (ho : (s.group g).cfg.overflowGroup = none) :
    overflowQueued s c g = s.modCall c fun d => { d with overflowDl := none } := by
  simp only [overflowQueued, ho]

theorem overflowQueued_some {d : GroupId} (ho : (s.group g).cfg.overflowGroup = some d) :
    overflowQueued s c g = (redirect s c g d (.overflow .deadline)).1 := by
  simp only [overflowQueued, ho]

theorem execNoAnswerExpiry_due (hd : ringDueGroup s c = some g) :
    execNoAnswerExpiry c s = .next (if (s.group g).cfg.method = .ringAll then s else finish (noAnswer s c g)) := by
  simp only [execNoAnswerExpiry, hd]

theorem execRingAllExpiry_due (hd : ringDueGroup s c = some g) :
    execRingAllExpiry c s = .next (if (s.group g).cfg.method = .ringAll then finish (ringAllNoAnswer s c g) else s) := by
  simp only [execRingAllExpiry, hd]

theorem execOverflowExpiry_due (hs : (s.call c).state = .queued) (hc : (s.call c).current = some g)
    (hd : due s.now (s.call c).overflowDl = true) :
    execOverflowExpiry c s = .next (finish (overflowQueued s c g)) := by
  simp [execOverflowExpiry, hs, hc, hd]

theorem execOverflowExpiry_other (hs : (s.call c).state ≠ .queued) : execOverflowExpiry c s = .next s := by
  unfold execOverflowExpiry
  split
  · contradiction
  · rfl

end

/-- Settles O41: a due ring deadline is the matter of one of its two rows, by the method of the call's group; each expiry is then one
operation with a case for each outcome of the redirect. -/
theorem ringAndOverflowDeadlinesExpire : Obligations.RingAndOverflowDeadlinesExpire := by
  unfold Obligations.RingAndOverflowDeadlinesExpire
  intro s c g hc
  refine ⟨fun hs hk hd => ?_, fun hs hd => ?_, fun hs => execOverflowExpiry_other hs⟩
  · have hdue : ringDueGroup s c = some g := (ringDueGroup_due hs hk hd).trans hc
    have hseq := execNoAnswerExpiry_due hdue
    have hall := execRingAllExpiry_due hdue
    refine ⟨fun hm => ?_, fun hm => ?_⟩
    · rw [if_neg hm] at hseq hall
      exact ⟨hseq, hall⟩
    · rw [if_pos hm] at hseq hall
      refine ⟨hseq, fun ho => hall.trans ?_, fun d why ho ht => hall.trans ?_, fun d ho ht => hall.trans ?_⟩
      · rw [ringAllNoAnswer_noOverflow ho]
      · rw [ringAllNoAnswer_fails ho ht]
      · rw [ringAllNoAnswer_redirects ho ht]
  · have hover := execOverflowExpiry_due hs hc hd
    refine ⟨fun ho => hover.trans ?_, fun d why ho ht => hover.trans ?_, fun d ho ht => hover.trans ?_⟩
    · rw [overflowQueued_noOverflow ho]
    · rw [overflowQueued_some ho, redirect_fails _ ht, redirectFails_eq]
    · rw [overflowQueued_some ho, redirect_made _ ht]
      rfl

end Sys2Proof.Machine
end

section
/-!
PROOFS. The announcement and the beacon of a group: the requests that set their parameters (O26), SUMMON and SUMMON HUSH (O53), and
the expiries of the announcement's delay and the beacon's debounce (O54).
-/

namespace Sys2Proof.Machine

/-! ## Claims, routes and extensions leave the groups -/

theorem group_of_callSide {s t : State} (h : callSide t = callSide s) (g : GroupId) : t.group g = s.group g := by
  have hde : t.de = s.de := congrArg (fun b => b.2.1) h
  rw [State.group, hde, State.group]

@[simp] theorem placeClaim_group (s : State) (k : ChannelId) (c : ClaimKind) (g : GroupId) :
    (placeClaim s k c).group g = s.group g := group_of_callSide (callSide_placeClaim s k c) g
@[simp] theorem dropClaim_group (s : State) (k : ChannelId) (c : ClaimKind) (g : GroupId) :
    (dropClaim s k c).group g = s.group g := group_of_callSide (callSide_dropClaim s k c) g
@[simp] theorem refollow_group (s : State) (z : ZoneId) (g : GroupId) : (refollow s z).group g = s.group g :=
  group_of_callSide (callSide_refollow s z) g
@[simp] theorem extendPage_group (s : State) (p : PageId) (gen : Byte) (n : Nat) (g : GroupId) :
    (extendPage s p gen n).group g = s.group g := group_of_callSide (callSide_extendPage s p gen n) g

@[simp] theorem refollowOpt_group (s : State) (z : Option ZoneId) (g : GroupId) : (refollowOpt s z).group g = s.group g := by
  cases z with
  | none => rfl
  | some z => exact refollow_group s z g

@[simp] theorem refollowPair_group (s : State) (a b : Option ZoneId) (g : GroupId) :
    (refollowPair s a b).group g = s.group g := by
  unfold refollowPair
  split
  · split <;> simp
  · simp

/-! ## ANNOUNCE SET -/

/-- The parameters alone are written unless a page group of none meets an ARMED announcement. -/
theorem storeAnnounce_keepsState {s : State} {g : GroupId} {p : AnnParams}
    (h : p.pageGroup ≠ none ∨ (s.group g).ann.state ≠ .armed) :
    storeAnnounce s g p = s.modGroup g fun r => { r with annP := p } := by
  have hno : ¬ (p.pageGroup = none ∧ (s.group g).ann.state = .armed) := by
    rintro ⟨hp, ha⟩
    exact h.elim (· hp) (· ha)
  exact State.modGroup_congr (by rw [if_neg hno])

/-- A page group of none makes an ARMED announcement IDLE. -/
theorem storeAnnounce_idles {s : State} {g : GroupId} {p : AnnParams} (hp : p.pageGroup = none)
    (ha : (s.group g).ann.state = .armed) :
    storeAnnounce s g p = s.modGroup g fun r =>
      { r with annP := p, ann := { r.ann with state := .idle, counter := 0, delayDl := none } } :=
  State.modGroup_congr (by rw [if_pos ⟨hp, ha⟩])

theorem announceSetOwner_ok {s : State} {b : AnnounceSetBody} {g : GroupId} {p : AnnParams}
    (hg : readFin 64 b.group.toNat = some g) (hp : readAnnounce b = some p) (hu : (s.group g).service ≠ .unused)
    (hs : s.isSaving = false) :
    announceSetOwner b s = .ok (storeAnnounce s g p) [((storeAnnounce s g p).group g).ann.state.code] := by
  simp [announceSetOwner, hg, hp, hu, hs]

/-! ## BEACON SET -/

/-- A beacon that goes ON: its record, its claim, and its zone's choice. -/
theorem beaconOn_eq (s : State) (g : GroupId) (z : ZoneId) :
    beaconOn s g z = refollow (placeClaim (s.modGroup g fun r => { r with beacon := { state := .on, dl := none } })
      (s.group g).beaconP.channel .group) z := by
  simp only [beaconOn, modBeacon, State.modGroup_same]

/-- A beacon that goes OFF: its record, its claim, and its zone's choice. -/
theorem beaconOff_eq (s : State) (g : GroupId) :
    beaconOff s g = refollowOpt (dropClaim (s.modGroup g fun r => { r with beacon := { state := .off, dl := none } })
      (s.group g).beaconP.channel .group) (s.group g).beaconP.zone := by
  simp only [beaconOff, modBeacon, dropClaim_group, State.modGroup_same]
  cases (s.group g).beaconP.zone <;> rfl

section
variable {s : State} {g : GroupId} {p : BeaconParams}

/-- An OFF beacon stays OFF unless its zone is newly set while calls wait. -/
theorem storeBeacon_staysOff (ho : (s.group g).beacon.state = .off)
    (h : p.zone = none ∨ (s.group g).beaconP.zone ≠ none ∨ (s.group g).queue = []) :
    storeBeacon s g p = s.modGroup g fun r => { r with beaconP := p } := by
  simp only [storeBeacon, ho]
  cases hz : p.zone with
  | none => rfl
  | some z =>
    refine if_neg ?_
    rintro ⟨hold, hq⟩
    rcases h with h | h | h
    · simp [hz] at h
    · exact h hold
    · exact hq h

theorem storeBeacon_turnsOn {z : ZoneId} (ho : (s.group g).beacon.state = .off) (hz : p.zone = some z)
    (hold : (s.group g).beaconP.zone = none) (hq : (s.group g).queue ≠ []) :
    storeBeacon s g p = beaconOn (s.modGroup g fun r => { r with beaconP := p }) g z := by
  simp only [storeBeacon, ho, hz]
  exact if_pos ⟨hold, hq⟩

/-- The claim dropped is the one of the old parameters. -/
theorem storeBeacon_turnsOff (ho : (s.group g).beacon.state ≠ .off) (hz : p.zone = none) :
    storeBeacon s g p = refollowOpt (dropClaim ((s.modGroup g fun r => { r with beaconP := p }).modGroup g fun r =>
      { r with beacon := { state := .off, dl := none } }) (s.group g).beaconP.channel .group) (s.group g).beaconP.zone := by
  unfold storeBeacon
  split
  · contradiction
  · simp only [hz, modBeacon]

theorem storeBeacon_sameChannel {z : ZoneId} (ho : (s.group g).beacon.state ≠ .off) (hz : p.zone = some z)
    (hc : p.channel = (s.group g).beaconP.channel) :
    storeBeacon s g p =
      refollowPair (s.modGroup g fun r => { r with beaconP := p }) (s.group g).beaconP.zone (some z) := by
  unfold storeBeacon
  split
  · contradiction
  · simp only [hz, if_pos hc]

/-- The claim has moved to the new channel before the zones choose again. -/
theorem storeBeacon_newChannel {z : ZoneId} (ho : (s.group g).beacon.state ≠ .off) (hz : p.zone = some z)
    (hc : p.channel ≠ (s.group g).beaconP.channel) :
    storeBeacon s g p =
      refollowPair (dropClaim (placeClaim (s.modGroup g fun r => { r with beaconP := p }) p.channel .group)
        (s.group g).beaconP.channel .group) (s.group g).beaconP.zone (some z) := by
  unfold storeBeacon
  split
  · contradiction
  · simp only [hz, if_neg hc]

theorem beaconSetOwner_ok {group zone channel : Byte} {debounce : Half} (hg : readFin 64 group.toNat = some g)
    (hp : readBeacon zone channel debounce = some p) (hu : (s.group g).service ≠ .unused) (hs : s.isSaving = false) :
    beaconSetOwner group zone channel debounce s = .ok (storeBeacon s g p) [((storeBeacon s g p).group g).beacon.state.code] := by
  simp [beaconSetOwner, hg, hp, hu, hs]

end

/-- Settles O26: each owner stores the parameters by one function, `storeAnnounce` or `storeBeacon`, with a case for each state
that the new parameters meet; the reply's state is read from the group, which claims and routes leave alone. -/
theorem announceAndBeaconParametersAreStored : Obligations.AnnounceAndBeaconParametersAreStored := by
  unfold Obligations.AnnounceAndBeaconParametersAreStored
  refine ⟨fun h b s g p hr hg hp hu hs => ?_, fun h group zone channel debounce s g p hr hg hp hu hs => ?_⟩
  · have stored {t : State} {state : AnnState} (ht : storeAnnounce (framerHunt s) g p = t)
        (hst : (t.group g).ann.state = state) :
        exec (.announceSet h b) s = .next (replied t 0x05 h .ok [state.code]) :=
      received_taken hr (by simp) (hst ▸ ht ▸ announceSetOwner_ok (s := framerHunt s) hg hp hu hs)
    refine ⟨fun hkeep => ?_, fun hnone harmed => ?_⟩
    · exact stored (storeAnnounce_keepsState (s := framerHunt s) hkeep) (by simp)
    · exact stored (state := .idle) (storeAnnounce_idles (s := framerHunt s) hnone harmed) (by simp)
  · intro old t
    have stored {u : State} {state : BeaconState} (hu' : storeBeacon (framerHunt s) g p = u)
        (hst : (u.group g).beacon.state = state) :
        exec (.beaconSet h group zone channel debounce) s = .next (replied u 0x06 h .ok [state.code]) :=
      received_taken hr (by simp) (hst ▸ hu' ▸ beaconSetOwner_ok (s := framerHunt s) hg hp hu hs)
    refine ⟨fun ho hstays => ?_, fun z ho hz hold hq => ?_, fun ho hz => ?_, fun z ho hz hc => ?_, fun z ho hz hc => ?_⟩
    · exact stored (state := .off) (storeBeacon_staysOff (s := framerHunt s) ho hstays) (by simpa [t] using ho)
    · have hon := (storeBeacon_turnsOn (s := framerHunt s) ho hz hold hq).trans (beaconOn_eq t g z)
      rw [State.modGroup_same] at hon
      exact stored (state := .on) hon (by simp)
    · exact stored (state := .off) (storeBeacon_turnsOff (s := framerHunt s) ho hz) (by simp)
    · exact stored (storeBeacon_sameChannel (s := framerHunt s) ho hz hc) (by simp [t])
    · exact stored (storeBeacon_newChannel (s := framerHunt s) ho hz hc) (by simp [t])

/-! ## The trigger of an announcement -/

/-- The state in which a triggered announcement makes its attempt: the counter at 0 and no delay (R69). -/
def triggerBegins (s : State) (g : GroupId) : State := modAnn s g fun a => { a with counter := 0, delayDl := none }

section
variable {s : State} {g : GroupId}

theorem triggerAnnouncement_created {v : Started} (h : announcementAttempt (triggerBegins s g) g = .ok v) :
    triggerAnnouncement s g =
      (modAnn v.state g fun a => { a with state := .live, live := some (v.page, (v.state.page v.page).gen) },
        .ok (v.page, (v.state.page v.page).gen)) := by
  unfold triggerBegins at h
  simp only [triggerAnnouncement, h]

/-- A refused trigger is reported, and the announcement is ARMED again over a waiting queue and IDLE over an empty one. -/
theorem triggerAnnouncement_refused {e : Code} (h : announcementAttempt (triggerBegins s g) g = .error e) :
    triggerAnnouncement s g =
      (modAnn (queueNotice (triggerBegins s g) g (.announceRefused e)) g fun a =>
        if (s.group g).queue ≠ [] then { a with state := .armed, delayDl := afterOpt s.now (s.group g).annP.delay }
        else { a with state := .idle }, .error e) := by
  unfold triggerBegins at *
  simp only [triggerAnnouncement, h]
  simp only [queueNotice, modAnn, queueReport_group, queueReport_now, State.modGroup_same, State.modGroup_now]

theorem triggerAnnouncement_refused_ann {e : Code} (h : announcementAttempt (triggerBegins s g) g = .error e) :
    ((triggerAnnouncement s g).1.group g).ann =
      if (s.group g).queue ≠ [] then
        { (s.group g).ann with state := .armed, counter := 0, delayDl := afterOpt s.now (s.group g).annP.delay }
      else { (s.group g).ann with state := .idle, counter := 0, delayDl := none } := by
  simp only [triggerAnnouncement_refused h, triggerBegins, queueNotice, modAnn, queueReport_group, State.modGroup_same]

/-- A refused trigger touches one group and the report queue. -/
theorem triggerAnnouncement_refused_frame {e : Code} (h : announcementAttempt (triggerBegins s g) g = .error e) :
    let t := (triggerAnnouncement s g).1
    (∀ f, f ≠ g → t.group f = s.group f) ∧ t.pgc = s.pgc ∧ t.flc = s.flc ∧ t.ag = s.ag ∧ t.sct = s.sct := by
  rw [triggerAnnouncement_refused h]
  refine ⟨fun f hf => ?_, rfl, rfl, rfl, rfl⟩
  simp only [triggerBegins, queueNotice, modAnn, State.modGroup_ne _ _ hf, queueReport_group]

end

/-! ## SUMMON and SUMMON HUSH -/

/-- A summon of a group in use in RUN is refused for the requester or for the page group, in that order. -/
theorem summonCheck_run {s : State} {requester : Half} {group : Byte} {r : Requester} {g : GroupId} (hm : s.running = true)
    (hr : readRequester requester = some r) (hg : readFin 64 group.toNat = some g) (hu : (s.group g).service ≠ .unused) :
    summonCheck s requester group =
      if maySummon s r = false then .error .denied
      else if (s.group g).annP.pageGroup = none then .error .wrongState else .ok g := by
  simp [summonCheck, hm, hr, hg, hu]

theorem summonGroup_live {s : State} {g : GroupId} {p : PageId} {gen : Byte} (hs : (s.group g).ann.state = .live)
    (hl : (s.group g).ann.live = some (p, gen)) :
    summonGroup s g =
      (extendPage (modAnn s g fun a => { a with counter := 0 }) p gen (s.group g).annP.length, .ok (p, gen)) := by
  simp only [summonGroup, hs, hl, extendAnnouncement, modAnn, State.modGroup_same]

theorem summonGroup_triggers {s : State} {g : GroupId} (hs : (s.group g).ann.state ≠ .live) :
    summonGroup s g = triggerAnnouncement s g := by
  unfold summonGroup
  split
  · contradiction
  · rfl

theorem hushGroup_idle {s : State} {g : GroupId} (hs : (s.group g).ann.state = .idle) : hushGroup s g = s := by
  simp only [hushGroup, hs]

theorem hushGroup_armed {s : State} {g : GroupId} (hs : (s.group g).ann.state = .armed) :
    hushGroup s g = s.modGroup g fun d =>
      { d with ann := { d.ann with counter := 0, delayDl := afterOpt s.now d.annP.delay } } := by
  simp only [hushGroup, hs]
  exact State.modGroup_congr rfl

theorem hushGroup_live {s : State} {g : GroupId} (hs : (s.group g).ann.state = .live) :
    hushGroup s g = s.modGroup g fun d => { d with ann := { d.ann with counter := 0 } } := by
  simp only [hushGroup, hs, modAnn]

section
variable {s : State} {requester : Half} {group : Byte} {g : GroupId}

theorem summonOwner_ok {t : State} {r : TriggerResult} (hc : summonCheck s requester group = .ok g)
    (hs : summonGroup s g = (t, r)) : summonOwner requester group s = .ok t (announcementFields t g ++ announceField r) := by
  simp only [summonOwner, hc, hs]

theorem summonHushOwner_ok {t : State} (hc : summonCheck s requester group = .ok g) (hs : hushGroup s g = t) :
    summonHushOwner requester group s = .ok t (announcementFields t g) := by
  simp only [summonHushOwner, hc, hs]

theorem summonOwners_refused {e : Code} (hc : summonCheck s requester group = .error e) :
    summonOwner requester group s = .refuse e ∧ summonHushOwner requester group s = .refuse e := by
  simp only [summonOwner, summonHushOwner, hc, and_self]

end

/-- The reply fields of an announcement whose state and live page are known. -/
theorem announcementFields_of {t : State} {g : GroupId} {state : AnnState} {live : Option (PageId × Byte)}
    (hs : (t.group g).ann.state = state) (hl : (t.group g).ann.live = live) :
    announcementFields t g = [state.code] ++ encRef live := by
  rw [announcementFields, hs, hl]

/-- Settles O53: both requests make `summonCheck`; a SUMMON that passes extends the live page or triggers the announcement, whose
attempt has the two outcomes, and a SUMMON HUSH has a case for each announcement state. -/
theorem summonTriggersExtendsAndHushes : Obligations.SummonTriggersExtendsAndHushes := by
  unfold Obligations.SummonTriggersExtendsAndHushes
  intro h requester group s r g hr hm hq hg hu
  have hcheck := summonCheck_run (s := framerHunt s) (framerHunt_running hm) hq hg hu
  have refused {e : Code} (hc : summonCheck (framerHunt s) requester group = .error e) :
      exec (.summon h requester group) s = .next (replied (framerHunt s) 0x3C h e []) ∧
        exec (.summonHush h requester group) s = .next (replied (framerHunt s) 0x3D h e []) :=
    ⟨received_refused hr (by simp) (summonOwners_refused hc).1, received_refused hr (by simp) (summonOwners_refused hc).2⟩
  refine ⟨fun hmay => refused (hcheck.trans (if_pos hmay)), fun hmay hnone => ?_, fun hmay hpg => ?_⟩
  · exact refused (hcheck.trans ((if_neg (ne_false_of_eq_true hmay)).trans (if_pos hnone)))
  intro zero a
  have hok : summonCheck (framerHunt s) requester group = .ok g :=
    hcheck.trans ((if_neg (ne_false_of_eq_true hmay)).trans (if_neg hpg))
  have summoned {t : State} {x : TriggerResult} (ht : summonGroup (framerHunt s) g = (t, x)) :
      exec (.summon h requester group) s = .next (replied t 0x3C h .ok (announcementFields t g ++ announceField x)) :=
    received_taken hr (by simp) (summonOwner_ok hok ht)
  have hushed {t : State} {state : AnnState} (ht : hushGroup (framerHunt s) g = t) (hs : (t.group g).ann.state = state)
      (hl : (t.group g).ann.live = (s.group g).ann.live) :
      exec (.summonHush h requester group) s =
        .next (replied t 0x3D h .ok ([state.code] ++ encRef (s.group g).ann.live)) :=
    announcementFields_of hs hl ▸ received_taken hr (by simp) (summonHushOwner_ok hok ht)
  refine ⟨fun p gen hlive hl => ?_, fun v hst hv => ?_, fun e hst he => ?_, fun hst => ?_, fun hst => ?_, fun hst => ?_⟩
  · rw [summoned (summonGroup_live (s := framerHunt s) hlive hl),
      announcementFields_of (state := .live) (live := some (p, gen)) (by simpa [modAnn] using hlive) (by simpa [modAnn] using hl)]
    rfl
  · intro ref
    rw [summoned ((summonGroup_triggers (s := framerHunt s) hst).trans (triggerAnnouncement_created hv)),
      announcementFields_of (state := .live) (live := some ref) (by simp [modAnn]) (by simp [modAnn, ref])]
    rfl
  · have hann := triggerAnnouncement_refused_ann (s := framerHunt s) he
    rw [framerHunt_group] at hann
    obtain ⟨hothers, hpgc, hflc, hag, hsct⟩ := triggerAnnouncement_refused_frame (s := framerHunt s) he
    refine ⟨_, summoned (t := (triggerAnnouncement (framerHunt s) g).1) (summonGroup_triggers (s := framerHunt s) hst), ?_,
      fun hwait => ?_, fun hempty => ?_, fun f hf => (replied_group ..).trans (hothers f hf), (replied_pgc ..).trans hpgc,
      (replied_flc ..).trans hflc, (replied_ag ..).trans hag, (replied_sct ..).trans hsct⟩
    · rw [replied_group, hann]
      split <;> rfl
    · rw [replied_group, hann, if_pos hwait]
      exact ⟨rfl, rfl⟩
    · rw [replied_group, hann, if_neg (not_not_intro hempty)]
      exact ⟨rfl, rfl⟩
  · exact hushed (hushGroup_idle (s := framerHunt s) hst) hst rfl
  · exact hushed (hushGroup_armed (s := framerHunt s) hst) (by simpa using hst) (by simp)
  · exact hushed (hushGroup_live (s := framerHunt s) hst) (by simpa using hst) (by simp)

/-! ## The delay and the debounce -/

/-- Settles O54: each expiry acts exactly when its live state waits for it and its deadline is due. -/
theorem announceDelayAndDebounceExpire : Obligations.AnnounceDelayAndDebounceExpire := by
  unfold Obligations.AnnounceDelayAndDebounceExpire
  intro s g
  refine ⟨fun hs hd => congrArg _ (if_pos ⟨hs, hd⟩), fun hs hd => ?_, fun hno => congrArg _ (if_neg ?_),
    fun hno => congrArg _ (if_neg ?_)⟩
  · rw [← beaconOff_eq]
    exact congrArg _ (if_pos ⟨hs, hd⟩)
  all_goals
    rintro ⟨hs, hd⟩
    rcases hno with hno | hno
    · exact hno hs
    · exact absurd (hno.symm.trans hd) Bool.false_ne_true

end Sys2Proof.Machine
end

section
/-!
PROOFS. GROUP MODE (O43): what the switch to each service state does.
-/

namespace Sys2Proof.Machine

/-! ## GROUP MODE -/

section
variable {s : State} {g : GroupId}

theorem switchMode_present {m : ServiceState} (h : (s.group g).service = m) : switchMode s g m = s := if_pos h

theorem switchMode_closed (h : (s.group g).service ≠ .closed) :
    switchMode s g .closed = s.modGroup g fun r => { r with service := .closed } := if_neg h

theorem switchMode_night (h : (s.group g).service ≠ .night) :
    switchMode s g .night = switchNight (s.modGroup g fun r => { r with service := .night }) g := if_neg h

theorem switchMode_inService (h : (s.group g).service ≠ .inService) :
    switchMode s g .inService = switchInService (s.modGroup g fun r => { r with service := .inService }) g := if_neg h

theorem switchNight_none (h : (s.group g).cfg.nightGroup = none) : switchNight s g = s := by simp only [switchNight, h]

theorem switchNight_some {n : GroupId} (h : (s.group g).cfg.nightGroup = some n) :
    switchNight s g = (s.group g).queue.foldl (fun a c => (redirect a c g n .night).1) s := by
  simp only [switchNight, h]

/-- Without a queue no call is served, and only a RING ALL group has more members join its RINGING calls. -/
theorem switchInService_still (hm : (s.group g).cfg.method ≠ .ringAll) (hq : (s.group g).queue = []) :
    switchInService s g = s := by
  simp only [switchInService, if_neg hm, hq, List.foldl_nil]

theorem groupModeOwner_ok {group mode : Byte} {m : ServiceState} {t : State} (hg : readFin 64 group.toNat = some g)
    (hm : readMode mode = some m) (hu : (s.group g).service ≠ .unused) (ht : switchMode s g m = t) :
    groupModeOwner group mode s = .ok t ([(t.group g).service.code] ++ enc8 (t.group g).queue.length) := by
  simp only [groupModeOwner, hg, hm, if_neg hu, ht]

end

/-- Settles O43: GROUP MODE is one `switchMode` in every run mode and store state, with a case for each service state asked for. -/
theorem groupModeSwitchesTheGroup : Obligations.GroupModeSwitchesTheGroup := by
  unfold Obligations.GroupModeSwitchesTheGroup
  intro h group mode s g hr hg hu u
  have switched {m : ServiceState} {t : State} (hm : readMode mode = some m) (ht : switchMode (framerHunt s) g m = t) :
      exec (.groupMode h group mode) s =
        .next (replied t 0x21 h .ok ([(t.group g).service.code] ++ enc8 (t.group g).queue.length)) :=
    received_taken hr (by simp) (groupModeOwner_ok (s := framerHunt s) hg hm hu ht)
  refine ⟨fun m hm hpresent => ?_, fun hmode hs => ?_, fun hmode hs hno => ?_, fun n hmode hs hn => ?_, fun hmode hs => ?_⟩
  · rw [switched hm (switchMode_present (s := framerHunt s) hpresent), framerHunt_group, hpresent]
  · rw [switched (by rw [hmode]; rfl) (switchMode_closed (s := framerHunt s) hs), State.modGroup_same]
    rfl
  · have hnight := (switchMode_night (s := framerHunt s) hs).trans (switchNight_none (by simpa using hno))
    rw [switched (by rw [hmode]; rfl) hnight, State.modGroup_same]
    rfl
  · have hnight := (switchMode_night (s := framerHunt s) hs).trans (switchNight_some (n := n) (by simpa using hn))
    rw [State.modGroup_same] at hnight
    exact ⟨_, switched (by rw [hmode]; rfl) hnight, rfl⟩
  · refine ⟨_, switched (by rw [hmode]; rfl) (switchMode_inService (s := framerHunt s) hs), rfl, fun hmeth hq => ?_⟩
    rw [switchInService_still (by simpa using hmeth) (by simpa using hq), State.modGroup_same]
    show replied _ 0x21 h .ok ([1] ++ enc8 (s.group g).queue.length) = _
    rw [hq]
    rfl

end Sys2Proof.Machine
end

section
/-!
PROOFS. The requests that write one record of a table (O27): what each owner answers once its body has been read.
-/

namespace Sys2Proof.Machine

/-! ## Requests that write one record -/

theorem noRepeat_iff (ls : List PickupId) : noRepeat ls = true ↔ ls.Nodup := by
  induction ls with
  | nil => simp [noRepeat]
  | cons p ps ih => simp [noRepeat, ih]

theorem readRange_within {lo hi x : Nat} (hlo : lo ≤ x) (hhi : x ≤ hi) : readRange lo hi x = some x := if_pos ⟨hlo, hhi⟩

section
variable {s : State} (hs : s.isSaving = false)
include hs

theorem pickupGroupSetOwner_ok {group count l0 l1 l2 : Byte} {p : PickupId} {ls : List PickupId}
    (hp : readFin 48 group.toNat = some p) (hl : readLinks count l0 l1 l2 = some ls) (hself : p ∉ ls) (hn : ls.Nodup) :
    pickupGroupSetOwner group count l0 l1 l2 s = .ok (s.modPickup p fun r => { r with links := ls }) [] := by
  simp [pickupGroupSetOwner, hp, hl, hself, (noRepeat_iff ls).mpr hn, hs]

theorem classSetOwner_ok {b : ClassSetBody} {k : ClassId} {v : ServiceClass} (hk : readFin 4 b.cls.toNat = some k)
    (hv : readClass b = some v) : classSetOwner b s = .ok (s.modClass k fun _ => v) [] := by
  simp [classSetOwner, hk, hv, hs]

theorem directorySetOwner_ok {directory base length : Byte} {d : DirectoryId} (hd : readFin 8 directory.toNat = some d)
    (hb : base.toNat ≤ 127) (hsum : base.toNat + length.toNat ≤ 128) :
    directorySetOwner directory base length s =
      .ok (s.modDirectory d fun _ => { base := base.toNat, length := length.toNat }) [] := by
  have hlen : length.toNat ≤ 128 := by omega
  simp [directorySetOwner, hd, readRange_within (Nat.zero_le _) hb, readRange_within (Nat.zero_le _) hlen,
    Nat.not_lt.mpr hsum, hs]

theorem entrySetOwner_ok {b : EntrySetBody} {e : EntryId} {v : CodeEntry} (he : readFin 128 b.entry.toNat = some e)
    (hv : readEntry b = some v) (hfree : v.pageGroup ≠ none ∨ liveOnEntry s e = 0) :
    entrySetOwner b s = .ok (s.modEntry e fun _ => v) (enc8 (liveOnEntry s e)) := by
  have hunused : ¬ (v.pageGroup = none ∧ 0 < liveOnEntry s e) := fun ⟨hnone, hlive⟩ =>
    hfree.elim (· hnone) hlive.ne'
  simp only [entrySetOwner, he, hv, hs, Bool.false_eq_true, if_false, if_neg hunused]

theorem entrySetOwner_inUse {b : EntrySetBody} {e : EntryId} {v : CodeEntry} (he : readFin 128 b.entry.toNat = some e)
    (hv : readEntry b = some v) (hnone : v.pageGroup = none) (hlive : liveOnEntry s e ≠ 0) :
    entrySetOwner b s = .refuse .inUse := by
  simp [entrySetOwner, he, hv, hs, hnone, Nat.pos_of_ne_zero hlive]

theorem pageGroupSetOwner_ok {b : PageGroupSetBody} {g : PageGroupId} {v : PageGroupCfg}
    (hg : readFin 64 b.pageGroup.toNat = some g) (hv : readPageGroup g b = some v)
    (hfree : v.kind ≠ .empty ∨ liveOnGroup s g = 0) :
    pageGroupSetOwner b s = .ok (s.modPageGroup g fun p => { p with cfg := v }) (enc8 (liveOnGroup s g)) := by
  have hunused : ¬ (v.kind = .empty ∧ 0 < liveOnGroup s g) := fun ⟨hempty, hlive⟩ => hfree.elim (· hempty) hlive.ne'
  simp only [pageGroupSetOwner, hg, hv, hs, Bool.false_eq_true, if_false, if_neg hunused]

theorem pageGroupSetOwner_inUse {b : PageGroupSetBody} {g : PageGroupId} {v : PageGroupCfg}
    (hg : readFin 64 b.pageGroup.toNat = some g) (hv : readPageGroup g b = some v) (hempty : v.kind = .empty)
    (hlive : liveOnGroup s g ≠ 0) : pageGroupSetOwner b s = .refuse .inUse := by
  simp [pageGroupSetOwner, hg, hv, hs, hempty, Nat.pos_of_ne_zero hlive]

end

/-- Settles O27: each owner writes its record once the body is read, and the two that may empty an entry ask for live pages
first. -/
theorem tableRequestsWriteOneRecord : Obligations.TableRequestsWriteOneRecord := by
  unfold Obligations.TableRequestsWriteOneRecord
  intro h s hsave
  have hs : (framerHunt s).isSaving = false := hsave
  refine ⟨fun _ _ _ _ _ p ls hr hp hl hself hn => ?_, fun b k v hr hk hv => ?_, fun _ _ _ d hr hd hb hsum => ?_,
    fun b e v hr he hv => ⟨fun hfree => ?_, fun hnone hlive => ?_⟩,
    fun b g v hr hg hv => ⟨fun hfree => ?_, fun hempty hlive => ?_⟩⟩
  · exact received_taken hr (by simp) (pickupGroupSetOwner_ok hs hp hl hself hn)
  · exact received_taken hr (by simp) (classSetOwner_ok hs hk hv)
  · exact received_taken hr (by simp) (directorySetOwner_ok hs hd hb hsum)
  · exact received_taken hr (by simp) (entrySetOwner_ok hs he hv hfree)
  · exact received_refused hr (by simp) (entrySetOwner_inUse hs he hv hnone hlive)
  · exact received_taken hr (by simp) (pageGroupSetOwner_ok hs hg hv hfree)
  · exact received_refused hr (by simp) (pageGroupSetOwner_inUse hs hg hv hempty hlive)

end Sys2Proof.Machine
end

section
/-!
PROOFS. The three pickups and RETRIEVE (O44): the checks of each owner in order, up to the call that it takes.
-/

namespace Sys2Proof.Machine

/-! ## Pickups and RETRIEVE -/

theorem mayTake_of_state {s : State} {x : StationId} (h : (s.station x).state = .idle ∨ (s.station x).state = .busy) :
    mayTake s x = true := by
  rcases h with h | h <;> simp [mayTake, h]

theorem readOpt_all (n : Nat) : readOpt n 0xFF = some none := if_pos rfl

theorem readOpt_some {n : Nat} {b : Byte} {i : Fin n} (hb : b ≠ 0xFF) (hi : readFin n b.toNat = some i) :
    readOpt n b = some (some i) := by
  rw [readOpt, if_neg hb, hi]; rfl

/-! ### The call a GROUP PICKUP finds -/

section
variable {s : State} {x : StationId} {generation : Byte} {c : CallId} {p : PickupId}

theorem groupPickupFind_first (h : firstRing s (searchedGroups s x) = some (c, p)) :
    groupPickupFind s x none generation = .ok (c, p) := by
  simp only [groupPickupFind, h]

theorem groupPickupFind_none (h : firstRing s (searchedGroups s x) = none) :
    groupPickupFind s x none generation = .error .nothingToPickUp := by
  simp only [groupPickupFind, h]

theorem groupPickupFind_stale (h0 : generation ≠ 0) (hne : generation ≠ (s.call c).gen) :
    groupPickupFind s x (some c) generation = .error .stale := if_pos (staleGen_true h0 hne)

section
variable (hg : generation = 0 ∨ generation = (s.call c).gen)
include hg

theorem groupPickupFind_tooLate (hring : (s.call c).state ≠ .ringing) (hrecall : (s.call c).state ≠ .recalling) :
    groupPickupFind s x (some c) generation = .error .tooLate := by
  simp [groupPickupFind, staleGen_false hg, hring, hrecall]

variable (hst : (s.call c).state = .ringing ∨ (s.call c).state = .recalling)
include hst

theorem groupPickupFind_named (h : ringOf s (searchedGroups s x) c = some (c, p)) :
    groupPickupFind s x (some c) generation = .ok (c, p) := by
  rcases hst with hst | hst <;> simp [groupPickupFind, staleGen_false hg, hst, h]

theorem groupPickupFind_elsewhere (h : ringOf s (searchedGroups s x) c = none) :
    groupPickupFind s x (some c) generation = .error .nothingToPickUp := by
  rcases hst with hst | hst <;> simp [groupPickupFind, staleGen_false hg, hst, h]

end
end

/-! ### The owners, for a station that may take a call in RUN -/

section
variable {s : State} {station : Half} {x : StationId}
variable (hm : s.running = true) (hx : readStation station = some x) (ht : mayTake s x = true)
include hm hx ht

theorem groupPickupOwner_taken {call generation : Byte} {named : Option CallId} {c : CallId} {p : PickupId}
    (hc : readOpt 192 call = some named) (hf : groupPickupFind s x named generation = .ok (c, p)) :
    groupPickupOwner station call generation s =
      .ok (takeCall s c x) (enc8 c.val ++ [(s.call c).gen] ++ enc8 p.val ++ [(s.call c).state.code]) := by
  simp only [groupPickupOwner, hm, hx, ht, hc, hf, not_true_eq_false, if_false, callFields]

theorem groupPickupOwner_refused {call generation : Byte} {named : Option CallId} {e : Code}
    (hc : readOpt 192 call = some named) (hf : groupPickupFind s x named generation = .error e) :
    groupPickupOwner station call generation s = .refuse e := by
  simp only [groupPickupOwner, hm, hx, ht, hc, hf, not_true_eq_false, if_false]

section
variable {target : Half} {y : StationId} {generation : Byte} (hy : readStation target = some y)
include hy

theorem directedPickupOwner_denied (hd : (s.classOf x).directed = false) :
    directedPickupOwner station target generation s = .refuse .denied := by
  simp [directedPickupOwner, hm, hx, hy, ht, hd]

variable (hd : (s.classOf x).directed = true)
include hd

theorem directedPickupOwner_stale (h0 : generation ≠ 0) (hne : generation ≠ (s.station y).ringGen) :
    directedPickupOwner station target generation s = .refuse .stale := by
  simp [directedPickupOwner, hm, hx, hy, ht, hd, staleGen_true h0 hne]

variable (hg : generation = 0 ∨ generation = (s.station y).ringGen)
include hg

theorem directedPickupOwner_taken {c : CallId} (hs : (s.station y).state = .ringing) (hc : (s.station y).call = some c) :
    directedPickupOwner station target generation s =
      .ok (takeCall s c x) (enc8 c.val ++ [(s.call c).gen] ++ [(s.call c).state.code]) := by
  simp [directedPickupOwner, hm, hx, hy, ht, hd, staleGen_false hg, hs, hc, callFields]

theorem directedPickupOwner_noRing (hs : (s.station y).state ≠ .ringing) :
    directedPickupOwner station target generation s =
      .refuse (if generation = 0 then .nothingToPickUp else .tooLate) := by
  simp only [directedPickupOwner, hm, hx, hy, ht, hd, staleGen_false hg, not_true_eq_false, Bool.false_eq_true, if_false]
  split
  · contradiction
  · rfl

end

section
variable {group : Byte} {g : GroupId} (hgr : readFin 64 group.toNat = some g) (hu : (s.group g).service ≠ .unused)
include hgr hu

theorem queuePickupOwner_denied (hq : (s.classOf x).queuePickup = false) :
    queuePickupOwner station group s = .refuse .denied := by
  simp [queuePickupOwner, hm, hx, ht, hgr, hu, hq]

variable (hq : (s.classOf x).queuePickup = true)
include hq

theorem queuePickupOwner_taken {c : CallId} {cs : List CallId} (hqueue : (s.group g).queue = c :: cs) :
    queuePickupOwner station group s = .ok (takeCall s c x) (enc8 c.val ++ [(s.call c).gen]) := by
  simp [queuePickupOwner, hm, hx, ht, hgr, hu, hq, hqueue, callFields]

theorem queuePickupOwner_empty (hqueue : (s.group g).queue = []) :
    queuePickupOwner station group s = .refuse .nothingToPickUp := by
  simp [queuePickupOwner, hm, hx, ht, hgr, hu, hq, hqueue]

end

section
variable {orbit generation : Byte} {o : OrbitId} (ho : readFin 32 orbit.toNat = some o)
include ho

theorem retrieveOwner_free (hs : (s.orbit o).state = .free) : retrieveOwner station orbit generation s = .refuse .orbitEmpty := by
  simp [retrieveOwner, hm, hx, ht, ho, hs]

variable {c : CallId} (hs : (s.orbit o).state = .held) (hc : (s.orbit o).call = some c)
include hs hc

theorem retrieveOwner_stale (h0 : generation ≠ 0) (hne : generation ≠ (s.orbit o).gen) :
    retrieveOwner station orbit generation s = .refuse .stale := by
  simp [retrieveOwner, hm, hx, ht, ho, hs, hc, staleGen_true h0 hne]

theorem retrieveOwner_taken (hg : generation = 0 ∨ generation = (s.orbit o).gen) :
    retrieveOwner station orbit generation s = .ok (takeCall s c x) (enc8 c.val ++ [(s.call c).gen]) := by
  simp [retrieveOwner, hm, hx, ht, ho, hs, hc, staleGen_false hg, callFields]

end
end

/-- Settles O44: with the run mode and the station's state checked, a GROUP PICKUP answers what `groupPickupFind` finds, and each of
the other owners has one case for every outcome of its checks. -/
theorem pickupsTakeTheirCall : Obligations.PickupsTakeTheirCall := by
  unfold Obligations.PickupsTakeTheirCall
  intro h station s x hx hmode hstate
  have hm : (framerHunt s).running = true := framerHunt_running hmode
  have ht : mayTake (framerHunt s) x = true := mayTake_of_state (s := framerHunt s) hstate
  refine ⟨fun call generation hr => ?_, fun target generation y hr hy => ?_, fun group g hr hgr hu => ?_,
    fun orbit generation o hr ho => ?_⟩
  · have found {named : Option CallId} {c : CallId} {p : PickupId} (hc : readOpt 192 call = some named)
        (hf : groupPickupFind (framerHunt s) x named generation = .ok (c, p)) :
        exec (.groupPickup h station call generation) s = .next (replied (takeCall (framerHunt s) c x) 0x35 h .ok
          (enc8 c.val ++ [(s.call c).gen] ++ enc8 p.val ++ [(s.call c).state.code])) :=
      received_taken hr (by simp) (groupPickupOwner_taken hm hx ht hc hf)
    have refused {named : Option CallId} {e : Code} (hc : readOpt 192 call = some named)
        (hf : groupPickupFind (framerHunt s) x named generation = .error e) :
        exec (.groupPickup h station call generation) s = .next (replied (framerHunt s) 0x35 h e []) :=
      received_refused hr (by simp) (groupPickupOwner_refused hm hx ht hc hf)
    refine ⟨fun c p hall hring => ?_, fun hall hring => ?_, fun c hcall hc => ⟨fun h0 hne => ?_, fun hg =>
      ⟨fun hring hrecall => ?_, fun hst => ⟨fun p hring => ?_, fun hring => ?_⟩⟩⟩⟩
    · exact found (hall ▸ readOpt_all 192) (groupPickupFind_first (s := framerHunt s) hring)
    · exact refused (hall ▸ readOpt_all 192) (groupPickupFind_none (s := framerHunt s) hring)
    · exact refused (readOpt_some hcall hc) (groupPickupFind_stale (s := framerHunt s) h0 hne)
    · exact refused (readOpt_some hcall hc) (groupPickupFind_tooLate (s := framerHunt s) hg hring hrecall)
    · exact found (readOpt_some hcall hc) (groupPickupFind_named (s := framerHunt s) hg hst hring)
    · exact refused (readOpt_some hcall hc) (groupPickupFind_elsewhere (s := framerHunt s) hg hst hring)
  · refine ⟨fun hd => ?_, fun hd h0 hne => ?_, fun hd hg => ⟨fun c hs hc => ?_, fun hs => ?_⟩⟩
    · exact received_refused hr (by simp) (directedPickupOwner_denied hm hx ht hy hd)
    · exact received_refused hr (by simp) (directedPickupOwner_stale hm hx ht hy hd h0 hne)
    · exact received_taken hr (by simp) (directedPickupOwner_taken hm hx ht hy hd hg hs hc)
    · exact received_refused hr (by simp) (directedPickupOwner_noRing hm hx ht hy hd hg hs)
  · refine ⟨fun hq => ?_, fun c cs hq hqueue => ?_, fun hq hqueue => ?_⟩
    · exact received_refused hr (by simp) (queuePickupOwner_denied hm hx ht hgr hu hq)
    · exact received_taken hr (by simp) (queuePickupOwner_taken hm hx ht hgr hu hq hqueue)
    · exact received_refused hr (by simp) (queuePickupOwner_empty hm hx ht hgr hu hq hqueue)
  · refine ⟨fun hs => ?_, fun c hs hc => ⟨fun h0 hne => ?_, fun hg => ?_⟩⟩
    · exact received_refused hr (by simp) (retrieveOwner_free hm hx ht ho hs)
    · exact received_refused hr (by simp) (retrieveOwner_stale hm hx ht ho hs hc h0 hne)
    · exact received_taken hr (by simp) (retrieveOwner_taken hm hx ht ho hs hc hg)

end Sys2Proof.Machine
end

section
/-!
PROOFS. PARK (O45): the orbit it takes, the records of a parked call, and the owner's outcomes.
-/

namespace Sys2Proof.Machine

/-! ## PARK -/

@[simp] theorem replied_orbit (t : State) (kind : Byte) (h : Header) (code : Code) (fields : List Byte) (o : OrbitId) :
    (replied t kind h code fields).orbit o = t.orbit o := by simp [replied]
@[simp] theorem replied_ppu (t : State) (kind : Byte) (h : Header) (code : Code) (fields : List Byte) :
    (replied t kind h code fields).ppu = t.ppu := by simp [replied]

/-! ### The records of a parked call -/

theorem parkCall_orbit (s : State) (x : StationId) (c : CallId) (o p : OrbitId) :
    (parkCall s x c o).orbit p = if p = o then
      { state := .held, call := some c, gen := nextGen (s.orbit o).gen, parker := some x,
        recallDl := afterOpt s.sct.tick (s.classOf x).recallTicks }
      else s.orbit p := State.modOrbit_apply ..

theorem parkCall_call (s : State) (x : StationId) (c d : CallId) (o : OrbitId) :
    (parkCall s x c o).call d = if d = c then
      { s.call c with state := .parked, answering := none, orbit := some o, parker := some x, recallPending := false,
                      overflowDl := none }
      else s.call d := State.modCall_apply ..

theorem parkCall_station (s : State) (x y : StationId) (c : CallId) (o : OrbitId) :
    (parkCall s x c o).station y = if y = x then { s.station x with state := .busy, call := none } else s.station y :=
  State.modStation_apply ..

theorem parkCall_callFields (s : State) (x : StationId) (c : CallId) (o : OrbitId) :
    callFields (parkCall s x c o) c = enc8 c.val ++ [(s.call c).gen] := by
  rw [callFields, parkCall_call, if_pos rfl]

/-- Parking touches one orbit, the free order, one call and one station. -/
theorem parkCall_others (s : State) (x : StationId) (c : CallId) (o : OrbitId) :
    let t := parkCall s x c o
    t.ppu.freeOrder = s.ppu.freeOrder.erase o ∧ t.de = s.de ∧ t.pdir = s.pdir ∧ t.pgc = s.pgc ∧ t.ag = s.ag ∧
      t.flc = s.flc ∧ t.cs = s.cs := ⟨rfl, rfl, rfl, rfl, rfl, rfl, rfl⟩

/-! ### The orbit that a PARK takes -/

theorem parkOrbit_held {s : State} {o : OrbitId} (h : (s.orbit o).state = .held) :
    parkOrbit s (some o) = .error .orbitBusy := if_pos h

theorem parkOrbit_noneFree {s : State} (h : s.ppu.freeOrder = []) : parkOrbit s none = .error .noResource := by
  simp only [parkOrbit, h]

/-- A PARK takes the head of the free order, or the FREE orbit it names. -/
theorem parkOrbit_ok {s : State} {named : Option OrbitId} {o : OrbitId}
    (h : (named = none ∧ s.ppu.freeOrder.head? = some o) ∨ (named = some o ∧ (s.orbit o).state = .free)) :
    parkOrbit s named = .ok o := by
  rcases h with ⟨rfl, hhead⟩ | ⟨rfl, hfree⟩
  · obtain ⟨os, hos⟩ := List.head?_eq_some_iff.mp hhead
    simp only [parkOrbit, hos]
  · simp [parkOrbit, hfree]

/-! ### The owner, for a station that talks in RUN -/

section
variable {s : State} {station : Half} {orbit directory entry : Byte} {x : StationId} {c : CallId}
  {code : Option (DirectoryId × EntryId)} {named : Option OrbitId}
variable (hm : s.running = true) (hx : readStation station = some x) (htalk : (s.station x).state = .talking)
  (hcall : (s.station x).call = some c) (hn : readOpt 32 orbit = some named)
  (hcode : readPageCode directory entry = some code)
include hm hx htalk hcall hn hcode

theorem parkOwner_denied (hp : (s.classOf x).park = false) :
    parkOwner station orbit 0 directory entry s = .refuse .denied := by
  simp [parkOwner, readFlag, hm, hx, hn, hcode, htalk, hcall, hp]

variable (hp : (s.classOf x).park = true)
include hp

theorem parkOwner_noOrbit {e : Code} (ho : parkOrbit s named = .error e) :
    parkOwner station orbit 0 directory entry s = .refuse e := by
  simp [parkOwner, readFlag, hm, hx, hn, hcode, htalk, hcall, hp, ho]

variable {o : OrbitId} (ho : parkOrbit s named = .ok o)
include ho

theorem parkOwner_parks :
    parkOwner station orbit 0 directory entry s = .ok (parkCall s x c o)
      (enc8 o.val ++ [nextGen (s.orbit o).gen] ++ enc8 c.val ++ [(s.call c).gen] ++ [0xFF, 0xFF, 0]) := by
  simp [parkOwner, readFlag, hm, hx, hn, hcode, htalk, hcall, hp, ho, parkCall_orbit, parkCall_callFields, noAnnounceField,
    absent8, encRef]

theorem parkOwner_announces :
    parkOwner station orbit 1 directory entry s =
      .ok (announcePark (parkCall s x c o) x c o code).1 (enc8 o.val ++ [nextGen (s.orbit o).gen] ++
        (enc8 c.val ++ [(s.call c).gen]) ++ announceField (announcePark (parkCall s x c o) x c o code).2) := by
  simp [parkOwner, readFlag, hm, hx, hn, hcode, htalk, hcall, hp, ho, parkCall_orbit, parkCall_callFields]

end

/-- Settles O45: the owner's checks in order, then `parkCall`, whose records are read off one by one; a PARK that announces goes
on with `announcePark`. -/
theorem parkHoldsTheCallInAnOrbit : Obligations.ParkHoldsTheCallInAnOrbit := by
  unfold Obligations.ParkHoldsTheCallInAnOrbit
  intro h station orbit directory entry s x c code named hr hmode hx htalk hcall hn hcode
  have hm : (framerHunt s).running = true := framerHunt_running hmode
  refine ⟨fun hp => ?_, fun o hp hname hheld => ?_, fun hp hname hfree => ?_, fun o hp hchoice => ⟨?_, ?_⟩⟩
  · exact received_refused hr (by simp) (parkOwner_denied hm hx htalk hcall hn hcode hp)
  · exact received_refused hr (by simp)
      (parkOwner_noOrbit hm hx htalk hcall hn hcode hp (hname ▸ parkOrbit_held (s := framerHunt s) hheld))
  · exact received_refused hr (by simp)
      (parkOwner_noOrbit hm hx htalk hcall hn hcode hp (hname ▸ parkOrbit_noneFree (s := framerHunt s) hfree))
  · have ho : parkOrbit (framerHunt s) named = .ok o := parkOrbit_ok (s := framerHunt s) hchoice
    exact received_taken hr (by simp) (parkOwner_announces hm hx htalk hcall hn hcode hp ho)
  · have ho : parkOrbit (framerHunt s) named = .ok o := parkOrbit_ok (s := framerHunt s) hchoice
    obtain ⟨hfree, hde, hpdir, hpgc, hag, hflc, hcs⟩ := parkCall_others (framerHunt s) x c o
    refine ⟨_, received_taken hr (by simp) (parkOwner_parks hm hx htalk hcall hn hcode hp ho), ?_⟩
    simp only [replied_orbit, replied_ppu, replied_call, replied_station, replied_de, replied_pdir, replied_pgc, replied_ag,
      replied_flc, replied_cs]
    refine ⟨?_, fun p hpo => ?_, hfree, ?_, fun d hd => ?_, ?_, fun y hy => ?_, replied_hasReply .., hde, hpdir, hpgc, hag,
      hflc, hcs⟩
    · rw [parkCall_orbit, if_pos rfl]; rfl
    · rw [parkCall_orbit, if_neg hpo, framerHunt_orbit]
    · rw [parkCall_call, if_pos rfl, framerHunt_call]
    · rw [parkCall_call, if_neg hd, framerHunt_call]
    · rw [parkCall_station, if_pos rfl, framerHunt_station]
    · rw [parkCall_station, if_neg hy, framerHunt_station]

end Sys2Proof.Machine
end

section
/-!
PROOFS. The deadlines of recalls (O46): the recall that rings its parker, and what each expiry comes to.
-/

namespace Sys2Proof.Machine

/-! ## Recalls -/

/-- A join touches no more of the Pickup and Park Unit than the ring lists. -/
theorem ringJoin_ppu (s : State) (c : CallId) (why : RingReason) (x : StationId) :
    (ringJoin s c why x).ppu = { s.ppu with pickups := (ringJoin s c why x).ppu.pickups } := by
  unfold ringJoin
  dsimp only
  split <;> rfl

theorem ringJoin_orbit (s : State) (c : CallId) (why : RingReason) (x : StationId) (o : OrbitId) :
    (ringJoin s c why x).orbit o = s.orbit o := by rw [State.orbit, ringJoin_ppu]; rfl

theorem ringJoin_cls (s : State) (c : CallId) (why : RingReason) (x : StationId) (k : ClassId) :
    (ringJoin s c why x).cls k = s.cls k := by rw [State.cls, ringJoin_ppu]; rfl

/-- The ring deadline of a direct call or a recall does not depend on who has joined. -/
theorem coverageDl_ringJoin (s : State) (c : CallId) (why : RingReason) (x y : StationId) :
    coverageDl (ringJoin s c why x) y = coverageDl s y := by
  have hnow : (ringJoin s c why x).now = s.now := (ringJoin_quiet s c why x).tick
  have hcfg : ((ringJoin s c why x).station y).cfg = (s.station y).cfg := by
    rw [ringJoin_station]
    split
    · rename_i h; rw [h]
    · rfl
  simp only [coverageDl, State.classOf, hcfg, hnow, ringJoin_cls]

/-! ### The recall that starts -/

/-- The state in which a recall rings its parker: the deadline of the orbit is cleared, and the call does not wait (R90). -/
def recallBegins (s : State) (o : OrbitId) (c : CallId) : State :=
  (s.modOrbit o fun r => { r with recallDl := none }).modCall c fun d => { d with recallPending := false }

section
variable {s : State} {o : OrbitId} {c : CallId} {x : StationId}

/-- A recall of a call without an announcement page. -/
theorem startRecall_unannounced (hann : (s.call c).annPage = none) :
    startRecall s o c x = (ringJoin (recallBegins s o c) c .recall x).modCall c fun d =>
      { d with state := .recalling, ringDl := coverageDl s x } := by
  have hann' : ((recallBegins s o c).call c).annPage = none := by
    rw [recallBegins, State.modCall_same]; exact hann
  have hdl : coverageDl (ringJoin (recallBegins s o c) c .recall x) x = coverageDl s x := coverageDl_ringJoin ..
  have hstart : startRecall s o c x =
      (ringJoin (withdrawAnnouncement (recallBegins s o c) c) c .recall x).modCall c fun d =>
        { d with state := .recalling,
                 ringDl := coverageDl (ringJoin (withdrawAnnouncement (recallBegins s o c) c) c .recall x) x } := rfl
  rw [hstart, withdrawAnnouncement_none hann', hdl]

theorem startRecall_call (hann : (s.call c).annPage = none) (d : CallId) :
    (startRecall s o c x).call d = if d = c then
      { s.call c with recallPending := false, ringing := insertAsc x (s.call c).ringing, state := .recalling,
                      ringDl := coverageDl s x }
      else s.call d := by
  rw [startRecall_unannounced hann, State.modCall_apply, ringJoin_call, ringJoin_call, if_pos rfl, recallBegins,
    State.modCall_same, State.modOrbit_call]
  split
  · rfl
  · rename_i hd; exact State.modCall_ne _ _ hd

theorem startRecall_station (hann : (s.call c).annPage = none) (y : StationId) :
    (startRecall s o c x).station y =
      if y = x then { s.station x with state := .ringing, call := some c, ringGen := nextGen (s.station x).ringGen }
      else s.station y := by
  rw [startRecall_unannounced hann]
  exact ringJoin_station ..

/-- The recall leaves the free order and, but for its deadline, the orbit; and the blocks that no call lives in. -/
theorem startRecall_others (hann : (s.call c).annPage = none) :
    let t := startRecall s o c x
    t.orbit o = { s.orbit o with recallDl := none } ∧ t.ppu.freeOrder = s.ppu.freeOrder ∧ t.de = s.de ∧ t.pgc = s.pgc ∧
      t.flc = s.flc ∧ t.ag = s.ag := by
  obtain ⟨hde, -, hpgc, hag, hflc, -⟩ := ringJoin_others (recallBegins s o c) c .recall x
  rw [startRecall_unannounced hann]
  refine ⟨?_, ?_, hde, hpgc, hflc, hag⟩
  · exact (ringJoin_orbit ..).trans (State.modOrbit_same ..)
  · rw [State.modCall_ppu, ringJoin_ppu]; rfl

end

/-! ### The expiries -/

section
variable {s : State} {o : OrbitId} {c : CallId} {x : StationId}

theorem recallNotIdle_waits (h : coverageRecallGroup s c x = none) :
    recallNotIdle s o c x = s.modCall c fun d => { d with recallPending := true } := by
  simp only [recallNotIdle, h]

theorem recallNotIdle_covers {g : GroupId} (h : coverageRecallGroup s c x = some g) :
    recallNotIdle s o c x = coverageRecallTo s o c x g := by
  simp only [recallNotIdle, h]

theorem recallRingExpires_clears (h : coverageRecallGroup s c x = none) :
    recallRingExpires s o c x = s.modCall c fun d => { d with ringDl := none } := by
  simp only [recallRingExpires, h]

theorem recallRingExpires_covers {g : GroupId} (h : coverageRecallGroup s c x = some g) :
    recallRingExpires s o c x = coverageRecallTo s o c x g := by
  simp only [recallRingExpires, h]

theorem recallExpires_available (ha : (s.station x).available = true) :
    recallExpires s o c x = startRecall (s.modOrbit o fun r => { r with recallDl := none }) o c x := if_pos ha

theorem recallExpires_unavailable (ha : (s.station x).available = false) :
    recallExpires s o c x = recallNotIdle (s.modOrbit o fun r => { r with recallDl := none }) o c x :=
  if_neg (Bool.eq_false_iff.mp ha)

theorem execRecallExpiry_due (hs : (s.orbit o).state = .held) (hc : (s.orbit o).call = some c)
    (hx : (s.orbit o).parker = some x) (hd : due s.now (s.orbit o).recallDl = true) :
    execRecallExpiry o s = .next (finish (recallExpires s o c x)) := by
  simp only [execRecallExpiry, hs, hc, hx, hd, if_true]

theorem execRecallExpiry_free (hs : (s.orbit o).state = .free) : execRecallExpiry o s = .next s := by
  simp only [execRecallExpiry, hs]

theorem execRecallRingExpiry_due (hs : (s.call c).state = .recalling) (ho : (s.call c).orbit = some o)
    (hx : (s.call c).parker = some x) (hd : due s.now (s.call c).ringDl = true) :
    execRecallRingExpiry c s = .next (finish (recallRingExpires s o c x)) := by
  simp only [execRecallRingExpiry, hs, ho, hx, hd, if_true]

theorem execRecallRingExpiry_other (hs : (s.call c).state ≠ .recalling) : execRecallRingExpiry c s = .next s := by
  unfold execRecallRingExpiry
  split
  · contradiction
  · rfl

end

/-- Settles O46: a due recall deadline is `startRecall` for an available parker and `recallNotIdle` for another, a due ring deadline
is `recallRingExpires`; the last two have a case for each outcome of the coverage test. -/
theorem recallsRingTheParkerOrCover : Obligations.RecallsRingTheParkerOrCover := by
  unfold Obligations.RecallsRingTheParkerOrCover
  intro s o c x
  refine ⟨fun hs hc hx hd => ?_, fun hs ho hx hd => ⟨fun hno => ?_, fun g hg => ?_⟩, execRecallExpiry_free,
    execRecallRingExpiry_other⟩
  · intro u
    have hdue := execRecallExpiry_due hs hc hx hd
    refine ⟨fun ha hann => ?_, fun ha hno => ?_, fun g ha hg => ?_⟩
    · have hann' : (u.call c).annPage = none := hann
      have hcall := startRecall_call (o := o) (x := x) hann' c
      rw [if_pos rfl] at hcall
      obtain ⟨horbit, hfree, hde, hpgc, hflc, hag⟩ := startRecall_others (o := o) (x := x) hann'
      refine ⟨_, recallExpires_available ha ▸ hdue, ?_⟩
      simp only [finish_call, finish_station, finish_orbit, finish_ppu, finish_de, finish_pgc, finish_flc, finish_ag]
      refine ⟨by rw [hcall], by rw [hcall]; rfl, by rw [hcall]; rfl, ?_, fun y hy => ?_, fun d hd => ?_, ?_, hfree, hde, hpgc,
        hflc, hag⟩
      · exact (startRecall_station hann' x).trans (if_pos rfl)
      · exact (startRecall_station hann' y).trans (if_neg hy)
      · exact (startRecall_call hann' d).trans (if_neg hd)
      · rw [horbit, State.modOrbit_same]
    · exact hdue.trans (by rw [recallExpires_unavailable ha, recallNotIdle_waits hno])
    · exact hdue.trans (by rw [recallExpires_unavailable ha, recallNotIdle_covers hg])
  · exact (execRecallRingExpiry_due hs ho hx hd).trans (by rw [recallRingExpires_clears hno])
  · exact (execRecallRingExpiry_due hs ho hx hd).trans (by rw [recallRingExpires_covers hg])

end Sys2Proof.Machine
end

section
/-!
PROOFS. The queries of the Page Directory (O30), and the checks of a PAGE in their order (R118).
-/

namespace Sys2Proof.Machine

/-! ## DIRECTORY QUERY and ENTRY QUERY -/

theorem readFin_none {n x : Nat} (h : n ≤ x) : readFin n x = none := dif_neg (Nat.not_lt.mpr h)

@[simp] theorem replied_pageGroup (t : State) (kind : Byte) (h : Header) (code : Code) (fields : List Byte) (g : PageGroupId) :
    (replied t kind h code fields).pageGroup g = t.pageGroup g := by simp [replied]
@[simp] theorem replied_page (t : State) (kind : Byte) (h : Header) (code : Code) (fields : List Byte) (p : PageId) :
    (replied t kind h code fields).page p = t.page p := by simp [replied]
@[simp] theorem replied_bus (t : State) (kind : Byte) (h : Header) (code : Code) (fields : List Byte) (b : BusId) :
    (replied t kind h code fields).bus b = t.bus b := by simp [replied]
@[simp] theorem replied_zone (t : State) (kind : Byte) (h : Header) (code : Code) (fields : List Byte) (z : ZoneId) :
    (replied t kind h code fields).zone z = t.zone z := by simp [replied]

/-- Settles O30: the owner of each query reads the record that the number names, and refuses a number that names none. -/
theorem directoryAndEntryQueriesReadTheirRecords : Obligations.DirectoryAndEntryQueriesReadTheirRecords := by
  unfold Obligations.DirectoryAndEntryQueriesReadTheirRecords
  intro h n s hr
  refine ⟨fun d hd => ?_, fun hn => ?_, fun e he => ?_, fun hn => ?_⟩
  · exact received_taken hr (by simp) (by simp only [directoryQueryOwner, hd]; rfl)
  · exact received_refused hr (by simp) (by simp only [directoryQueryOwner, readFin_none hn])
  · exact received_taken hr (by simp) (by simp only [entryQueryOwner, he]; rfl)
  · exact received_refused hr (by simp) (by simp only [entryQueryOwner, readFin_none hn])

/-! ## The checks of a PAGE -/

section Checks

variable {s : State} {requester : Half} {directory entry source : Byte} {r : Requester} {d : DirectoryId} {v : Resolved}

theorem pageAttempt_noDirectory (hr : readRequester requester = some r) (hd : 8 ≤ directory.toNat) :
    pageAttempt s requester directory entry source = .error .noSuchCode := by
  simp only [pageAttempt, hr, readFin_none hd]

theorem pageAttempt_noCode {e : Code} (hr : readRequester requester = some r) (hd : readFin 8 directory.toNat = some d)
    (hv : resolveCode s d entry.toNat (rightsOf s r) = .error e) :
    pageAttempt s requester directory entry source = .error e := by
  simp only [pageAttempt, hr, hd, hv]

theorem pageAttempt_noSource {e : Code} (hr : readRequester requester = some r) (hd : readFin 8 directory.toNat = some d)
    (hv : resolveCode s d entry.toNat (rightsOf s r) = .ok v) (hs : pageSource s r v.code.sourceKind source = .error e) :
    pageAttempt s requester directory entry source = .error e := by
  simp only [pageAttempt, hr, hd, hv, hs]

theorem pageAttempt_attempts {kind : PageKind} {src : PageSource} (hr : readRequester requester = some r)
    (hd : readFin 8 directory.toNat = some d) (hv : resolveCode s d entry.toNat (rightsOf s r) = .ok v)
    (hs : pageSource s r v.code.sourceKind source = .ok (kind, src)) :
    pageAttempt s requester directory entry source = startAttempt s (codePageRequest r.origin v kind src) := by
  simp only [pageAttempt, hr, hd, hv, hs]

theorem pageOwner_refused {e : Code} (hm : s.running = true) (ha : pageAttempt s requester directory entry source = .error e) :
    pageOwner requester directory entry source s = .refuse e := by
  simp only [pageOwner, hm, ha, not_true_eq_false, if_false]

theorem pageOwner_accepted {a : Started} (hm : s.running = true)
    (ha : pageAttempt s requester directory entry source = .ok a) :
    pageOwner requester directory entry source s = .ok a.state (startedFields a) := by
  simp only [pageOwner, hm, ha, not_true_eq_false, if_false]

/-- Neither source of a page code makes a TONE page. -/
theorem pageSource_kind {k : SourceKind} {kind : PageKind} {src : PageSource} (h : pageSource s r k source = .ok (kind, src)) :
    kind ≠ .tone := by
  unfold pageSource at h
  split at h
  · split at h <;> simp at h
    simp [← h.1]
  · simp at h
    simp [← h.1]

end Checks

theorem followChain_framerHunt (s : State) (hops : Nat) (g : PageGroupId) :
    followChain (framerHunt s) hops g = followChain s hops g := by
  induction hops generalizing g with
  | zero => unfold followChain; rfl
  | succ hops ih =>
    unfold followChain
    simp only [framerHunt_pageGroup, ih]

theorem resolveCode_framerHunt (s : State) (d : DirectoryId) (i : Nat) (rights : Rights) :
    resolveCode (framerHunt s) d i rights = resolveCode s d i rights := by
  unfold resolveCode
  simp only [followChain_framerHunt]
  rfl

end Sys2Proof.Machine
end

section
/-!
PROOFS. The start of a page (R121, R122): what it does to the record of the page, to its bus and to what the zones play.
-/

namespace Sys2Proof.Machine

/-! ## What claims and routes leave of pages, buses and what zones play -/

@[simp] theorem changeChannel_pgc (s : State) (k : ChannelId) (f : Channel → Channel) : (changeChannel s k f).pgc = s.pgc := by
  obtain ⟨_, _, _, _, hpgc, _⟩ := changeChannel_others s k f
  exact hpgc
@[simp] theorem changeChannel_zone (s : State) (k : ChannelId) (f : Channel → Channel) (z : ZoneId) :
    (changeChannel s k f).zone z = s.zone z := by
  unfold changeChannel; dsimp only; split <;> rfl
@[simp] theorem placeClaim_pgc (s : State) (k : ChannelId) (c : ClaimKind) : (placeClaim s k c).pgc = s.pgc :=
  changeChannel_pgc ..
@[simp] theorem placeClaim_zone (s : State) (k : ChannelId) (c : ClaimKind) (z : ZoneId) :
    (placeClaim s k c).zone z = s.zone z := changeChannel_zone ..
@[simp] theorem placeClaim_page (s : State) (k : ChannelId) (c : ClaimKind) (q : PageId) :
    (placeClaim s k c).page q = s.page q := congrArg (fun g : Pgc => g.pages[q]) (placeClaim_pgc s k c)
@[simp] theorem placeClaim_bus (s : State) (k : ChannelId) (c : ClaimKind) (b : BusId) :
    (placeClaim s k c).bus b = s.bus b := congrArg (fun g : Pgc => g.buses[b]) (placeClaim_pgc s k c)
@[simp] theorem placeClaim_now (s : State) (k : ChannelId) (c : ClaimKind) : (placeClaim s k c).now = s.now :=
  (placeClaim_quiet s k c).tick

@[simp] theorem setPendingRoute_pgc (s : State) (m : ModuleId) : (setPendingRoute s m).pgc = s.pgc := by
  unfold setPendingRoute; split <;> rfl
@[simp] theorem setPendingRoute_zone (s : State) (m : ModuleId) (z : ZoneId) : (setPendingRoute s m).zone z = s.zone z := by
  unfold setPendingRoute; split <;> rfl

@[simp] theorem setRoute_pgc (s : State) (z : ZoneId) (r : Setting) : (setRoute s z r).pgc = s.pgc :=
  setPendingRoute_pgc ..
@[simp] theorem setRoute_playing (s : State) (z y : ZoneId) (r : Setting) :
    ((setRoute s z r).zone y).playing = (s.zone y).playing := by
  rw [setRoute, setPendingRoute_zone, State.modZone_apply]
  split
  · rename_i h; rw [h]
  · rfl

@[simp] theorem refollow_pgc (s : State) (z : ZoneId) : (refollow s z).pgc = s.pgc := by
  unfold refollow
  dsimp only
  split
  · rfl
  · exact setRoute_pgc ..
@[simp] theorem refollow_playing (s : State) (z y : ZoneId) : ((refollow s z).zone y).playing = (s.zone y).playing := by
  unfold refollow
  dsimp only
  split
  · rfl
  · rw [setRoute_playing, State.modZone_apply]
    split
    · rename_i h; rw [h]
    · rfl

@[simp] theorem takeMainSource_page (s : State) (p q : PageId) (b : BusId) : (takeMainSource s p b).page q = s.page q := by
  unfold takeMainSource; split <;> simp
@[simp] theorem takeMainSource_zone (s : State) (p : PageId) (b : BusId) (z : ZoneId) :
    (takeMainSource s p b).zone z = s.zone z := by
  unfold takeMainSource; split <;> simp
/-- A bus keeps its page when the page takes its main source. -/
theorem takeMainSource_bus_page (s : State) (p : PageId) (b : BusId) :
    ((takeMainSource s p b).bus b).page = (s.bus b).page := by
  unfold takeMainSource; split <;> simp

/-! ## The zones that a starting page takes -/

/-- A page record without the two sets that its start fills. -/
def Page.withoutZones (r : Page) : Page := { r with audible := [], beacons := [] }

/-- Records equal but for their zones agree in every other field. -/
theorem Page.of_withoutZones {α : Type} (f : Page → α) (hf : ∀ r : Page, f r.withoutZones = f r) {r t : Page}
    (h : r.withoutZones = t.withoutZones) : f r = f t := by
  rw [← hf r, h, hf]

/-- The change from `s` to `t` is one that the zones taken by page `p` make: the buses stand, the record of `p` changes in the
sets of its zones alone, no page changes its priority, and a zone plays what it played or plays `p`. -/
structure TakesZones (p : PageId) (s t : State) : Prop where
  quiet : Quiet s t
  buses : t.pgc.buses = s.pgc.buses
  page : (t.page p).withoutZones = (s.page p).withoutZones
  priorities : ∀ q, (t.page q).priority = (s.page q).priority
  playing : ∀ z, (t.zone z).playing = (s.zone z).playing ∨ (t.zone z).playing = some p

namespace TakesZones

variable {p : PageId}

theorem refl (s : State) : TakesZones p s s := ⟨Quiet.rfl' s, rfl, rfl, fun _ => rfl, fun _ => .inl rfl⟩

theorem trans {s t u : State} (h : TakesZones p s t) (k : TakesZones p t u) : TakesZones p s u where
  quiet := h.quiet.trans k.quiet
  buses := k.buses.trans h.buses
  page := k.page.trans h.page
  priorities q := (k.priorities q).trans (h.priorities q)
  playing z := by
    rcases k.playing z with hz | hz
    · rw [hz]; exact h.playing z
    · exact .inr hz

theorem foldl {α : Type} {f : State → α → State} (hf : ∀ s a, TakesZones p s (f s a)) (l : List α) (s : State) :
    TakesZones p s (l.foldl f s) := by
  induction l generalizing s with
  | nil => exact refl s
  | cons a l ih => exact (hf s a).trans (ih (f s a))

/-- A quiet change that leaves the Paging Controller and what the zones play. -/
theorem of_pgc {s t : State} (hq : Quiet s t) (hpgc : t.pgc = s.pgc)
    (hplay : ∀ z, (t.zone z).playing = (s.zone z).playing) : TakesZones p s t := by
  have hpage (q : PageId) : t.page q = s.page q := by rw [State.page, hpgc, State.page]
  exact ⟨hq, by rw [hpgc], by rw [hpage], fun q => by rw [hpage], fun z => .inl (hplay z)⟩

theorem modPage_self (s : State) (f : Page → Page) (hf : ∀ r, (f r).withoutZones = r.withoutZones) :
    TakesZones p s (s.modPage p f) := by
  refine ⟨Quiet.modPage s p f, rfl, by rw [State.modPage_same, hf], fun q => ?_, fun _ => .inl rfl⟩
  rw [State.modPage_apply]
  split
  · rename_i h; rw [h]; exact Page.of_withoutZones Page.priority (fun _ => rfl) (hf _)
  · rfl

theorem modPage_other (s : State) {q : PageId} (hq : q ≠ p) (f : Page → Page) (hf : ∀ r, (f r).priority = r.priority) :
    TakesZones p s (s.modPage q f) := by
  refine ⟨Quiet.modPage s q f, rfl, by rw [State.modPage_ne s f hq.symm], fun x => ?_, fun _ => .inl rfl⟩
  rw [State.modPage_apply]
  split
  · rename_i h; rw [h, hf]
  · rfl

theorem modZone (s : State) (z : ZoneId) (f : Zone → Zone) (hh : ∀ d, (f d).health = d.health)
    (hf : ∀ d, (f d).playing = d.playing ∨ (f d).playing = some p) : TakesZones p s (s.modZone z f) := by
  refine ⟨Quiet.modZone s z f hh, rfl, rfl, fun _ => rfl, fun y => ?_⟩
  rw [State.modZone_apply]
  split
  · rename_i h; rw [h]; exact hf _
  · exact .inl rfl

/-- A zone that `p` plays in goes on playing `p`. -/
theorem playing_stays {s t : State} (h : TakesZones p s t) {z : ZoneId} (hz : (s.zone z).playing = some p) :
    (t.zone z).playing = some p := by
  rcases h.playing z with h | h
  · exact h.trans hz
  · exact h

end TakesZones

/-- Takeability rests on a zone's health, on what it plays and on the pages' priorities alone. -/
theorem takeable_congr {s t : State} {priority : Priority} {requested : List ZoneId} {z : ZoneId}
    (hh : (t.zone z).health = (s.zone z).health) (hplay : (t.zone z).playing = (s.zone z).playing)
    (hprio : ∀ q, (s.zone z).playing = some q → (t.page q).priority = (s.page q).priority) :
    takeable t priority requested z = takeable s priority requested z := by
  simp only [Zone.health, Prod.mk.injEq] at hh
  obtain ⟨hkind, hservice, _⟩ := hh
  unfold takeable
  rw [hkind, hservice, hplay]
  cases hq : (s.zone z).playing with
  | none => rfl
  | some q => simp only [hprio q hq]

/-- A zone takeable for a page of `p`'s priority does not play `p`. -/
theorem takeable_not_self {s : State} {p q : PageId} {requested : List ZoneId} {z : ZoneId}
    (h : takeable s (s.page p).priority requested z = true) (hq : (s.zone z).playing = some q) : q ≠ p := by
  rintro rfl
  simp [takeable, hq] at h

theorem takeable_requested {s : State} {priority : Priority} {requested : List ZoneId} {z : ZoneId}
    (h : takeable s priority requested z = true) : z ∈ requested := by
  simp only [takeable, Bool.and_eq_true, List.contains_iff_mem] at h
  obtain ⟨⟨_, hreq⟩, _⟩ := h
  exact hreq

/-- A page that stood in the zone is stacked, and held when the zone was its last audible one. -/
theorem stackPage_takes {p q : PageId} (s : State) (z : ZoneId) (hq : q ≠ p) :
    TakesZones p s
      (let t := s.modZone z fun d => { d with stack := d.stack ++ [q] }
       let t := t.modPage q fun r => { r with audible := r.audible.erase z, suspended := insertAsc z r.suspended }
       if (t.page q).audible = [] then holdPage t q else t) := by
  have hstack : TakesZones p s ((s.modZone z fun d => { d with stack := d.stack ++ [q] }).modPage q fun r =>
      { r with audible := r.audible.erase z, suspended := insertAsc z r.suspended }) :=
    (TakesZones.modZone s z (fun d => { d with stack := d.stack ++ [q] }) (fun _ => rfl) fun _ => .inl rfl).trans
      (.modPage_other _ hq (fun r => { r with audible := r.audible.erase z, suspended := insertAsc z r.suspended }) fun _ => rfl)
  dsimp only
  split
  · refine (hstack.trans (.modPage_other _ hq (fun r => { r with state := .held }) fun _ => rfl)).trans ?_
    exact .of_pgc (pageNotice_quiet _ _ _) rfl fun _ => rfl
  · exact hstack

theorem takeZone_takes (p : PageId) (b : BusId) (s : State) (z : ZoneId) : TakesZones p s (takeZone p b s z) := by
  unfold takeZone
  split
  · rename_i htake
    dsimp only
    refine TakesZones.trans ?_ (.of_pgc (setRoute_quiet _ _ _) (setRoute_pgc ..) fun _ => setRoute_playing ..)
    refine TakesZones.trans ?_ (.modPage_self _ _ fun _ => rfl)
    refine TakesZones.trans ?_ (.modZone _ _ _ (fun _ => rfl) fun _ => .inr rfl)
    split
    · exact .refl s
    · rename_i q hq
      exact stackPage_takes s z (takeable_not_self htake hq)
  · exact .refl s

theorem takeZone_playing {p : PageId} {s : State} {z : ZoneId} (b : BusId)
    (h : takeable s (s.page p).priority (s.page p).requested z = true) : ((takeZone p b s z).zone z).playing = some p := by
  rw [takeZone, if_pos h, setRoute_playing, State.modPage_zone, State.modZone_same]

/-- Of the zones gone through, the page plays in each that was takeable for it. -/
theorem takeZones_playing {p : PageId} (b : BusId) (zs : List ZoneId) {s : State} {z : ZoneId} (hz : z ∈ zs)
    (h : takeable s (s.page p).priority (s.page p).requested z = true) :
    ((zs.foldl (takeZone p b) s).zone z).playing = some p := by
  induction zs generalizing s with
  | nil => simp at hz
  | cons y ys ih =>
    have head := takeZone_takes p b s y
    have tail := TakesZones.foldl (takeZone_takes p b) ys (takeZone p b s y)
    rcases List.mem_cons.mp hz with rfl | hys
    · exact tail.playing_stays (takeZone_playing b h)
    · rcases head.playing z with same | taken
      · refine ih hys ?_
        have hreq : ((takeZone p b s y).page p).requested = (s.page p).requested :=
          Page.of_withoutZones Page.requested (fun _ => rfl) head.page
        rw [head.priorities, hreq, takeable_congr (head.quiet.health z) same fun q _ => head.priorities q]
        exact h
      · exact tail.playing_stays taken

theorem claimBeacons_takes (s : State) (p : PageId) : TakesZones p s (claimBeacons s p) := by
  unfold claimBeacons
  split
  · refine TakesZones.trans (TakesZones.foldl (fun t z => ?_) _ s) (TakesZones.foldl (fun t z => ?_) _ _)
    · exact (TakesZones.modPage_self t (fun r => { r with beacons := insertAsc z r.beacons }) fun _ => rfl).trans
        (.of_pgc (placeClaim_quiet _ _ _) (placeClaim_pgc ..) fun _ => by rw [placeClaim_zone])
    · exact .of_pgc (refollow_quiet t z) (refollow_pgc ..) fun _ => refollow_playing ..
  · exact .refl s

/-! ## The start of a page -/

/-- A page record on its bus: its start tick is taken and its wait is over (R121 step 2). -/
def Page.onBus (r : Page) (b : BusId) (now : Tick) : Page := { r with bus := some b, startTick := some now, waitDl := none }

/-- The fields of a record that say what prelude it has. -/
def Page.prelude (r : Page) : PageKind × ChannelId × ToneId × Nat := (r.kind, r.preludeChannel, r.preludeTone, r.preludeTicks)

/-- Steps 1 and 2 of R121: the page leaves the queue and takes its bus. -/
def startBegins (s : State) (p : PageId) (b : BusId) : State :=
  (({ s with pgc := { s.pgc with queue := s.pgc.queue.erase p } } : State).modBus b fun d => { d with page := some p }).modPage p
    fun r => r.onBus b s.now

/-- The start up to its zones (R121 step 3, R122). -/
def startTakes (s : State) (p : PageId) (b : BusId) : State :=
  claimBeacons (((startBegins s p b).page p).requested.foldl (takeZone p b) (startBegins s p b)) p

/-- The prelude of a page that has one, or its main source. -/
def startSource (s : State) (p : PageId) (b : BusId) : State :=
  let r := s.page p
  if r.kind ≠ .tone ∧ r.preludeTicks ≠ 0 then
    let t := placeClaim (s.modBus b fun d => { d with source := .tone r.preludeChannel r.preludeTone }) r.preludeChannel .prelude
    t.modPage p fun r => { r with preludeDl := some (after t.now r.preludeTicks), state := .prelude }
  else (takeMainSource s p b).modPage p fun r => { r with state := .playing }

/-- What the prelude or the main source makes of the record of a starting page, with its end deadline (R121 steps 4 to 6). -/
def Page.sounds (r : Page) (now : Tick) : Page :=
  if r.kind ≠ .tone ∧ r.preludeTicks ≠ 0 then
    { r with preludeDl := some (after now r.preludeTicks), state := .prelude, endDl := some (after now r.maxDuration) }
  else { r with state := .playing, endDl := some (after now r.maxDuration) }

theorem Page.sounds_withoutZones (r : Page) (now : Tick) : (r.sounds now).withoutZones = r.withoutZones.sounds now := by
  unfold Page.sounds
  exact apply_ite Page.withoutZones ..

/-- Of the other fields the sounds of a page change its end deadline alone. -/
theorem Page.sounds_fields (r : Page) (now : Tick) : (r.sounds now).bus = r.bus ∧ (r.sounds now).gen = r.gen ∧
    (r.sounds now).origin = r.origin ∧ (r.sounds now).priority = r.priority ∧ (r.sounds now).startTick = r.startTick ∧
    (r.sounds now).endDl = some (after now r.maxDuration) := by
  unfold Page.sounds
  split <;> exact ⟨rfl, rfl, rfl, rfl, rfl, rfl⟩

theorem Page.sounds_prelude {r : Page} (now : Tick) (hk : r.kind ≠ .tone) (ht : r.preludeTicks ≠ 0) : r.sounds now =
    { r with preludeDl := some (after now r.preludeTicks), state := .prelude, endDl := some (after now r.maxDuration) } :=
  if_pos ⟨hk, ht⟩

theorem Page.sounds_main {r : Page} (now : Tick) (ht : r.preludeTicks = 0) :
    r.sounds now = { r with state := .playing, endDl := some (after now r.maxDuration) } := if_neg fun h => h.2 ht

section Start

variable (s : State) (p : PageId) (b : BusId)

theorem startBegins_page : (startBegins s p b).page p = (s.page p).onBus b s.now := State.modPage_same ..

theorem startBegins_bus : (startBegins s p b).bus b = { s.bus b with page := some p } :=
  State.modBus_same { s with pgc := { s.pgc with queue := s.pgc.queue.erase p } } b _

theorem startTakes_takes : TakesZones p (startBegins s p b) (startTakes s p b) :=
  (TakesZones.foldl (takeZone_takes p b) _ _).trans (claimBeacons_takes _ p)

theorem startTakes_bus : (startTakes s p b).bus b = { s.bus b with page := some p } := by
  rw [← startBegins_bus, State.bus, (startTakes_takes s p b).buses, State.bus]

theorem startTakes_now : (startTakes s p b).now = s.now := (startTakes_takes s p b).quiet.tick

/-- A page that starts plays in every zone that was takeable for it, and goes on playing where it played. -/
theorem startTakes_playing {s : State} {p : PageId} {z : ZoneId} (b : BusId)
    (h : (s.zone z).playing = some p ∨ takeable s (s.page p).priority (s.page p).requested z = true) :
    ((startTakes s p b).zone z).playing = some p := by
  rcases h with h | h
  · exact (startTakes_takes s p b).playing_stays h
  · refine (claimBeacons_takes _ p).playing_stays (takeZones_playing b _ ?_ ?_)
    · rw [startBegins_page]; exact takeable_requested h
    · have same : takeable (startBegins s p b) (s.page p).priority (s.page p).requested z =
          takeable s (s.page p).priority (s.page p).requested z :=
        takeable_congr rfl rfl fun q hq => by rw [startBegins, State.modPage_ne _ _ (takeable_not_self h hq)]; rfl
      rw [startBegins_page]
      exact same.trans h

theorem startSource_now : (startSource s p b).now = s.now := by
  unfold startSource
  dsimp only
  split
  · exact placeClaim_now ..
  · exact (takeMainSource_quiet s p b).tick

theorem startSource_page : (startSource s p b).page p =
    if (s.page p).kind ≠ .tone ∧ (s.page p).preludeTicks ≠ 0 then
      { s.page p with preludeDl := some (after s.now (s.page p).preludeTicks), state := .prelude }
    else { s.page p with state := .playing } := by
  unfold startSource
  dsimp only
  split
  · rw [State.modPage_same, placeClaim_page, placeClaim_now, State.modBus_page, State.modBus_now]
  · rw [State.modPage_same, takeMainSource_page]

theorem startSource_zone (z : ZoneId) : (startSource s p b).zone z = s.zone z := by
  unfold startSource
  dsimp only
  split
  · exact placeClaim_zone ..
  · exact takeMainSource_zone ..

theorem startSource_bus_prelude (h : (s.page p).kind ≠ .tone ∧ (s.page p).preludeTicks ≠ 0) :
    (startSource s p b).bus b =
      { s.bus b with source := .tone (s.page p).preludeChannel (s.page p).preludeTone } := by
  rw [startSource, if_pos h, State.modPage_bus, placeClaim_bus, State.modBus_same]

theorem startSource_bus_page : ((startSource s p b).bus b).page = (s.bus b).page := by
  by_cases h : (s.page p).kind ≠ .tone ∧ (s.page p).preludeTicks ≠ 0
  · rw [startSource_bus_prelude s p b h]
  · rw [startSource, if_neg h, State.modPage_bus, takeMainSource_bus_page]

theorem startPage_eq : startPage s p b =
    pageNotice ((startSource (startTakes s p b) p b).modPage p fun r =>
      { r with endDl := some (after (startSource (startTakes s p b) p b).now r.maxDuration) }) p .started := rfl

/-- The record of a page that starts, the sets of its zones apart. -/
theorem startPage_page : ((startPage s p b).page p).withoutZones =
    (((s.page p).onBus b s.now).sounds s.now).withoutZones := by
  have sounds : (startPage s p b).page p = ((startTakes s p b).page p).sounds s.now := by
    rw [startPage_eq, pageNotice, queueReport_page, State.modPage_same, startSource_now, startTakes_now, startSource_page,
      startTakes_now, Page.sounds]
    split <;> rfl
  rw [sounds, Page.sounds_withoutZones, (startTakes_takes s p b).page, startBegins_page, ← Page.sounds_withoutZones]

theorem startPage_bus : ((startPage s p b).bus b).page = some p := by
  rw [startPage_eq, pageNotice, queueReport_bus, State.modPage_bus, startSource_bus_page, startTakes_bus]

theorem startPage_playing {s : State} {p : PageId} {z : ZoneId} (b : BusId)
    (h : (s.zone z).playing = some p ∨ takeable s (s.page p).priority (s.page p).requested z = true) :
    ((startPage s p b).zone z).playing = some p := by
  rw [startPage_eq, pageNotice, queueReport_zone, State.modPage_zone, startSource_zone, startTakes_playing b h]

/-- A page with a prelude starts with the prelude's tone on its bus. -/
theorem startPage_bus_prelude {s : State} {p : PageId} (hk : (s.page p).kind ≠ .tone) (ht : (s.page p).preludeTicks ≠ 0) :
    ((startPage s p b).bus b).source = .tone (s.page p).preludeChannel (s.page p).preludeTone := by
  have same := (startTakes_takes s p b).page
  rw [startBegins_page] at same
  have same_prelude : ((startTakes s p b).page p).prelude = (s.page p).prelude :=
    (Page.of_withoutZones Page.prelude (fun _ => rfl) same).trans rfl
  simp only [Page.prelude, Prod.mk.injEq] at same_prelude
  obtain ⟨hkind, hchannel, htone, hticks⟩ := same_prelude
  rw [startPage_eq, pageNotice, queueReport_bus, State.modPage_bus, startSource_bus_prelude _ _ _ ⟨hkind ▸ hk, hticks ▸ ht⟩,
    hchannel, htone]

end Start

end Sys2Proof.Machine
end

section
/-!
PROOFS. A new page (R113), the start attempt with a takeable zone and without one (R119), and PAGE (O49).
-/

namespace Sys2Proof.Machine

/-! ## A new page -/

/-- The record of a new page (R113). -/
def newPage (q : PageRequest) (gen : Byte) (now : Tick) : Page :=
  { Page.ended (nextGen gen) with
    state := .queued, kind := q.kind, origin := q.origin, priority := q.priority, requested := q.zones, source := q.source,
    preludeChannel := q.preludeChannel, preludeTone := q.preludeTone, preludeTicks := q.preludeTicks,
    maxDuration := q.maxDuration, waitTicks := q.waitTicks, codeEntry := q.codeEntry, chain := q.chain, requestTick := now }

/-- The referenced flags are in the Page Directory. -/
theorem setReferenced_pdir (s : State) (gs : List PageGroupId) : ∃ d, setReferenced s gs = { s with pdir := d } := by
  induction gs generalizing s with
  | nil => exact ⟨s.pdir, rfl⟩
  | cons g gs ih => exact ih (s.modPageGroup g fun p => { p with referenced := true })

/-- Every entry of the chain is marked. -/
theorem setReferenced_referenced {s : State} {gs : List PageGroupId} {g : PageGroupId}
    (hg : g ∈ gs ∨ (s.pageGroup g).referenced = true) : ((setReferenced s gs).pageGroup g).referenced = true := by
  induction gs generalizing s with
  | nil => simpa [setReferenced] using hg
  | cons k ks ih =>
    refine ih ?_
    by_cases hk : g = k
    · subst hk; exact .inr (by rw [State.modPageGroup_same])
    · rw [State.modPageGroup_ne _ _ hk]
      simpa [hk] using hg

section Create

variable (s : State) (p : PageId) (q : PageRequest)

/-- A new page is one record; beside it flags in the Page Directory and the station of a voice page change. -/
theorem createPage_eq : ∃ d stations, createPage s p q =
    { s.modPage p (fun r => newPage q r.gen s.now) with pdir := d, sct := { s.sct with stations := stations } } := by
  obtain ⟨d, hd⟩ := setReferenced_pdir (s.modPage p fun r => newPage q r.gen s.now) q.chain
  refine ⟨d, ?_⟩
  unfold createPage
  dsimp only
  split
  · rename_i x _ _
    exact ⟨_, congrArg (fun u : State => u.modStation x fun t => { t with voicePage := some p }) hd⟩
  · exact ⟨s.sct.stations, hd⟩

theorem createPage_page : (createPage s p q).page p = newPage q (s.page p).gen s.now := by
  obtain ⟨d, stations, hcreate⟩ := createPage_eq s p q
  rw [hcreate]
  exact State.modPage_same s p fun r => newPage q r.gen s.now

theorem createPage_page_ne {x : PageId} (hx : x ≠ p) : (createPage s p q).page x = s.page x := by
  obtain ⟨d, stations, hcreate⟩ := createPage_eq s p q
  rw [hcreate]
  exact State.modPage_ne s (fun r => newPage q r.gen s.now) hx

/-- A new page leaves the buses, the zones, the channels and the blocks that calls live in but for a station's voice page. -/
theorem createPage_others :
    (createPage s p q).pgc.buses = s.pgc.buses ∧ (createPage s p q).flc = s.flc ∧ (createPage s p q).ag = s.ag ∧
      (createPage s p q).de = s.de ∧ (createPage s p q).ppu = s.ppu ∧ (createPage s p q).cs = s.cs := by
  obtain ⟨d, stations, hcreate⟩ := createPage_eq s p q
  rw [hcreate]
  exact ⟨rfl, rfl, rfl, rfl, rfl, rfl⟩

theorem createPage_zone (z : ZoneId) : (createPage s p q).zone z = s.zone z := by
  obtain ⟨_, hflc, _⟩ := createPage_others s p q
  rw [State.zone, hflc, State.zone]

theorem createPage_now : (createPage s p q).now = s.now := (createPage_quiet s p q).tick

theorem createPage_referenced {g : PageGroupId} (hg : g ∈ q.chain) : ((createPage s p q).pageGroup g).referenced = true := by
  unfold createPage
  dsimp only
  split <;> exact setReferenced_referenced (.inl hg)

/-- A zone that was takeable for the new page is so still, or played the page's record before it was taken anew. -/
theorem createPage_takeable {z : ZoneId} (h : takeable s q.priority q.zones z = true) :
    ((createPage s p q).zone z).playing = some p ∨
      takeable (createPage s p q) ((createPage s p q).page p).priority ((createPage s p q).page p).requested z = true := by
  have hzone := createPage_zone s p q z
  by_cases hp : (s.zone z).playing = some p
  · exact .inl (by rw [hzone, hp])
  · refine .inr ?_
    rw [createPage_page]
    refine (takeable_congr (by rw [hzone]) (by rw [hzone]) fun x hx => ?_).trans h
    rw [createPage_page_ne s p q]
    rintro rfl
    exact hp hx

end Create

/-! ## The start attempt -/

section Attempt

variable {s : State} {q : PageRequest} {p : PageId}

/-- The lowest ENDED record is the one that a new page takes. -/
theorem endedRecord_lowest (hp : (s.page p).state = .ended) (hlow : ∀ o, o < p → (s.page o).state ≠ .ended) :
    (lowestWhere fun o => (s.page o).state == .ended) = some p :=
  lowestWhere_eq (by simp [hp]) fun o ho => by simpa using hlow o ho

theorem freeBus_lowest {b : BusId} (hb : (s.bus b).page = none) (hlow : ∀ a, a < b → (s.bus a).page ≠ none) :
    freeBus s = some b :=
  lowestWhere_eq (by simp [hb]) fun a ha => by simpa [Option.isSome_iff_ne_none] using hlow a ha

/-- A start attempt with a record, a takeable zone and a free bus starts its page on that bus. -/
theorem startAttempt_starts {b : BusId} (hp : (s.page p).state = .ended) (hlow : ∀ o, o < p → (s.page o).state ≠ .ended)
    (hz : ∃ z, z ∈ q.zones ∧ takeable s q.priority q.zones z = true) (hb : freeBus s = some b) :
    startAttempt s q = .ok { state := startPage (createPage s p q) p b, page := p, cut := none } := by
  have hany : anyTakeable s q.priority q.zones = true := List.any_eq_true.mpr hz
  simp only [startAttempt, endedRecord_lowest hp hlow, hany, hb, not_true_eq_false, if_false]

/-- A start attempt with a record, no takeable zone and a wait queues its page. -/
theorem startAttempt_queues (hp : (s.page p).state = .ended) (hlow : ∀ o, o < p → (s.page o).state ≠ .ended)
    (hz : ∀ z, z ∈ q.zones → takeable s q.priority q.zones z = false) (hw : q.waitTicks ≠ 0) :
    startAttempt s q = .ok { state := enqueuePage (createPage s p q) p, page := p, cut := none } := by
  have hany : anyTakeable s q.priority q.zones = false := by simpa [anyTakeable] using hz
  simp only [startAttempt, endedRecord_lowest hp hlow, hany, hw, Bool.false_eq_true, not_false_eq_true, if_true, if_false]

/-- The record of a page that starts when it is created, the sets of its zones apart. -/
theorem startCreated_page (s : State) (p : PageId) (q : PageRequest) (b : BusId) :
    ((startPage (createPage s p q) p b).page p).withoutZones =
      (((newPage q (s.page p).gen s.now).onBus b s.now).sounds s.now).withoutZones := by
  rw [startPage_page, createPage_page, createPage_now]

theorem startCreated_fields (s : State) (p : PageId) (q : PageRequest) (b : BusId) :
    let t := startPage (createPage s p q) p b
    (t.page p).bus = some b ∧ (t.page p).gen = nextGen (s.page p).gen ∧ (t.page p).origin = q.origin ∧
      (t.page p).priority = q.priority ∧ (t.page p).startTick = some s.now ∧
      (t.page p).endDl = some (after s.now q.maxDuration) := by
  have hpage := startCreated_page s p q b
  obtain ⟨hbus, hgen, horigin, hpriority, hstart, hend⟩ :=
    Page.sounds_fields ((newPage q (s.page p).gen s.now).onBus b s.now) s.now
  exact ⟨(Page.of_withoutZones Page.bus (fun _ => rfl) hpage).trans hbus,
    (Page.of_withoutZones Page.gen (fun _ => rfl) hpage).trans hgen,
    (Page.of_withoutZones Page.origin (fun _ => rfl) hpage).trans horigin,
    (Page.of_withoutZones Page.priority (fun _ => rfl) hpage).trans hpriority,
    (Page.of_withoutZones Page.startTick (fun _ => rfl) hpage).trans hstart,
    (Page.of_withoutZones Page.endDl (fun _ => rfl) hpage).trans hend⟩

/-- A page with a prelude starts in PRELUDE, with the prelude's tone on its bus. -/
theorem startCreated_prelude (s : State) (p : PageId) {q : PageRequest} (b : BusId) (hk : q.kind ≠ .tone)
    (ht : q.preludeTicks ≠ 0) :
    let t := startPage (createPage s p q) p b
    (t.page p).state = .prelude ∧ (t.page p).preludeDl = some (after s.now q.preludeTicks) ∧
      (t.bus b).source = .tone q.preludeChannel q.preludeTone := by
  have hpage := startCreated_page s p q b
  rw [Page.sounds_prelude s.now hk ht] at hpage
  have hbus := startPage_bus_prelude (s := createPage s p q) (p := p) b (by rwa [createPage_page]) (by rwa [createPage_page])
  rw [createPage_page] at hbus
  exact ⟨Page.of_withoutZones Page.state (fun _ => rfl) hpage, Page.of_withoutZones Page.preludeDl (fun _ => rfl) hpage, hbus⟩

/-- A page without a prelude starts in PLAYING. -/
theorem startCreated_main (s : State) (p : PageId) {q : PageRequest} (b : BusId) (ht : q.preludeTicks = 0) :
    let t := startPage (createPage s p q) p b
    (t.page p).state = .playing ∧ (t.page p).preludeDl = none := by
  have hpage := startCreated_page s p q b
  rw [Page.sounds_main s.now ht] at hpage
  exact ⟨Page.of_withoutZones Page.state (fun _ => rfl) hpage, Page.of_withoutZones Page.preludeDl (fun _ => rfl) hpage⟩

/-- A page that queues has its wait deadline, and no bus. -/
theorem enqueueCreated_page (s : State) (p : PageId) {q : PageRequest} (hw : q.waitTicks ≠ 0) :
    (enqueuePage (createPage s p q) p).page p =
      { newPage q (s.page p).gen s.now with waitDl := some (after s.now q.waitTicks) } := by
  have hdl : afterOpt s.now q.waitTicks = some (after s.now q.waitTicks) := if_neg hw
  have hpage : (enqueuePage (createPage s p q) p).page p = _ := State.modPage_same ..
  rw [hpage, createPage_page, ← hdl]
  rfl

end Attempt

/-- A page that queues stands in the page queue. -/
theorem enqueuePage_queued (s : State) (p : PageId) : p ∈ (enqueuePage s p).pgc.queue := insertBy_mem ..

/-! ## PAGE -/

theorem replied_tables (t : State) (kind : Byte) (h : Header) (code : Code) (fields : List Byte) :
    tables (replied t kind h code fields) = tables t := by
  simp only [tables, imageOf, replied_sct, replied_de, replied_ppu, replied_pdir, replied_ag, replied_flc, replied_cs]

/-- Settles O49: the owner makes the checks in their order and then the start attempt, which with a takeable zone and a free bus is
`startPage` of a new page, and without a takeable zone is `enqueuePage` of one. -/
theorem pageCreatesAndStarts : Obligations.PageCreatesAndStarts := by
  unfold Obligations.PageCreatesAndStarts
  intro h requester directory entry source s r hr hm hreq
  have hrun := framerHunt_running hm
  have refused {e : Code} (ha : pageAttempt (framerHunt s) requester directory entry source = .error e) :
      exec (.page h requester directory entry source) s = .next (replied (framerHunt s) 0x3A h e []) :=
    received_refused hr (by simp) (pageOwner_refused hrun ha)
  have accepted {a : Started} (ha : pageAttempt (framerHunt s) requester directory entry source = .ok a) :
      exec (.page h requester directory entry source) s = .next (replied a.state 0x3A h .ok (startedFields a)) :=
    received_taken hr (by simp) (pageOwner_accepted hrun ha)
  refine ⟨fun hd => refused (pageAttempt_noDirectory hreq hd), fun d hd => ⟨fun e hv => ?_, fun v e hv hs => ?_, ?_⟩⟩
  · exact refused (pageAttempt_noCode hreq hd ((resolveCode_framerHunt ..).trans hv))
  · exact refused (pageAttempt_noSource hreq hd ((resolveCode_framerHunt ..).trans hv) hs)
  · intro v kind src hv hs q
    have attempt : pageAttempt (framerHunt s) requester directory entry source = startAttempt (framerHunt s) q :=
      pageAttempt_attempts hreq hd ((resolveCode_framerHunt ..).trans hv) hs
    have hkind : q.kind ≠ .tone := pageSource_kind hs
    refine ⟨fun e he => refused (attempt.trans he), fun a ha => accepted (attempt.trans ha), fun p b hp hlow hz hb hblow => ?_,
      fun p hp hlow hz hw => ?_⟩
    · have started := startAttempt_starts (s := framerHunt s) (q := q) hp hlow hz (freeBus_lowest hb hblow)
      have hquiet := startAttempt_quiet started
      obtain ⟨hbus, hgen, horigin, hpriority, hstart, hend⟩ := startCreated_fields (framerHunt s) p q b
      refine ⟨_, accepted (attempt.trans started), ?_⟩
      simp only [replied_bus, replied_page, replied_zone, replied_cs, replied_tables]
      exact ⟨startPage_bus .., hbus, hgen, horigin, hpriority, hstart, hend, startCreated_prelude (framerHunt s) p (q := q) b hkind,
        startCreated_main (framerHunt s) p (q := q) b, fun z hz => startPage_playing b (createPage_takeable (framerHunt s) p q hz),
        hquiet.cs, hquiet.tables⟩
    · have queued := startAttempt_queues (s := framerHunt s) (q := q) hp hlow hz hw
      have hpage := enqueueCreated_page (framerHunt s) p (q := q) hw
      obtain ⟨hbuses, hflc, hag, hde, hppu, hcs⟩ := createPage_others (framerHunt s) p q
      refine ⟨_, accepted (attempt.trans queued), ?_⟩
      simp only [replied_page, replied_pageGroup, replied_pgc, replied_flc, replied_ag, replied_de, replied_ppu, replied_cs, hpage]
      exact ⟨rfl, rfl, rfl, enqueuePage_queued _ p, rfl, fun g hg => createPage_referenced (framerHunt s) p q hg, hbuses, hflc, hag,
        hde, hppu, hcs⟩

end Sys2Proof.Machine
end

section
/-!
PROOFS. Takeable zones (O47), the start attempt (O48), and paging after a cold reset (O12).
-/

namespace Sys2Proof.Machine

/-! ## Takeable zones -/

/-- Settles O47: the four tests of `takeable` are the four conditions, the last of them split by what the zone plays. -/
theorem zonesAreTakeableForLowerPages : Obligations.ZonesAreTakeableForLowerPages := by
  unfold Obligations.ZonesAreTakeableForLowerPages
  intro s pr requested z
  simp only [takeable, Bool.and_eq_true, beq_iff_eq, List.contains_iff_mem, and_assoc]
  cases hq : (s.zone z).playing with
  | none => simp
  | some q => simp

/-! ## The start attempt -/

theorem lowestWhere_none {n : Nat} {p : Fin n → Bool} (h : ∀ d, p d = false) : lowestWhere p = none :=
  List.find?_eq_none.mpr fun d _ => by simp [h d]

theorem freeBus_none {s : State} (h : ∀ b, (s.bus b).page ≠ none) : freeBus s = none :=
  lowestWhere_none fun b => by simpa [Option.isSome_iff_ne_none] using h b

section Attempt

variable {s : State} {q : PageRequest} {p : PageId}

/-- A start attempt with no ENDED record is refused. -/
theorem startAttempt_noRecord (h : ∀ p, (s.page p).state ≠ .ended) : startAttempt s q = .error .noResource := by
  have hno : (lowestWhere fun p => (s.page p).state == .ended) = none := lowestWhere_none fun p => by simpa using h p
  simp only [startAttempt, hno]

/-- A start attempt with no takeable zone that may not wait is refused. -/
theorem startAttempt_noZones (hp : (s.page p).state = .ended) (hlow : ∀ o, o < p → (s.page o).state ≠ .ended)
    (hz : ∀ z, z ∈ q.zones → takeable s q.priority q.zones z = false) (hw : q.waitTicks = 0) :
    startAttempt s q = .error .noZones := by
  have hany : anyTakeable s q.priority q.zones = false := by simpa [anyTakeable] using hz
  simp only [startAttempt, endedRecord_lowest hp hlow, hany, hw, Bool.false_eq_true, not_false_eq_true, if_true]

/-- With a takeable zone and no free bus, a victim is cut and the page starts on the victim's bus. -/
theorem startAttempt_cuts {v : PageId} {b : BusId} (hp : (s.page p).state = .ended)
    (hlow : ∀ o, o < p → (s.page o).state ≠ .ended) (hz : ∃ z, z ∈ q.zones ∧ takeable s q.priority q.zones z = true)
    (hf : freeBus s = none) (hv : victim s q.priority = some v) (hb : (s.page v).bus = some b) :
    startAttempt s q = .ok { state := startPage (createPage (endPageNoScan s v .cut) p q) p b, page := p,
                             cut := some (v, (s.page v).gen) } := by
  have hany : anyTakeable s q.priority q.zones = true := List.any_eq_true.mpr hz
  simp only [startAttempt, endedRecord_lowest hp hlow, hany, hf, hv, hb, not_true_eq_false, if_false]

/-- With a takeable zone, no free bus and no victim, the page queues, or is refused when it may not wait. -/
theorem startAttempt_noVictim (hp : (s.page p).state = .ended) (hlow : ∀ o, o < p → (s.page o).state ≠ .ended)
    (hz : ∃ z, z ∈ q.zones ∧ takeable s q.priority q.zones z = true) (hf : freeBus s = none)
    (hv : victim s q.priority = none) :
    startAttempt s q = if q.waitTicks = 0 then .error .noResource
      else .ok { state := enqueuePage (createPage s p q) p, page := p, cut := none } := by
  have hany : anyTakeable s q.priority q.zones = true := List.any_eq_true.mpr hz
  simp only [startAttempt, endedRecord_lowest hp hlow, hany, hf, hv, not_true_eq_false, if_false]

end Attempt

/-- Settles O48: one lemma for each outcome of the attempt's tests, in their order. -/
theorem pageStartAttempt : Obligations.PageStartAttempt := by
  unfold Obligations.PageStartAttempt
  intro s q
  refine ⟨startAttempt_noRecord, fun p hp hlow => ⟨fun hz => ⟨?_, ?_⟩, fun hz => ⟨fun b hb hblow => ?_, fun hfull => ?_⟩⟩⟩
  · exact startAttempt_noZones hp hlow hz
  · exact startAttempt_queues hp hlow hz
  · exact startAttempt_starts hp hlow hz (freeBus_lowest hb hblow)
  · have hf := freeBus_none hfull
    refine ⟨fun v b hv hb => startAttempt_cuts hp hlow hz hf hv hb, fun hv hw => ?_, fun hv hw => ?_⟩
    · exact (startAttempt_noVictim hp hlow hz hf hv).trans (if_pos hw)
    · exact (startAttempt_noVictim hp hlow hz hf hv).trans (if_neg hw)

/-! ## Paging after a cold reset -/

theorem coldState_page (s : State) (cause : StartCause) (p : PageId) : (coldState s cause).page p = Page.ended 0 :=
  Vector.getElem_replicate ..
theorem coldState_bus (s : State) (cause : StartCause) (b : BusId) : (coldState s cause).bus b = Bus.free :=
  Vector.getElem_replicate ..
theorem coldState_zone (s : State) (cause : StartCause) (z : ZoneId) : (coldState s cause).zone z = Zone.reset :=
  Vector.getElem_replicate ..

/-- The one report after a cold reset is STARTED, which the transmitter has taken. -/
theorem coldState_report {s : State} {cause : StartCause} {r : Report}
    (h : r ∈ (coldState s cause).cl.reports ∨ (coldState s cause).cl.tx = .sending (.report r)) :
    r = .started cause s.cs.coldLoad.state.result := by
  rcases h with h | h
  · exact absurd h List.not_mem_nil
  · exact (OutFrame.report.inj (Transmitter.sending.inj h)).symm

/-- Settles O12: both cold resets leave `coldState`, whose pages, buses and zones are those of the reset state. -/
theorem coldResetClearsPaging : Obligations.ColdResetClearsPaging := by
  unfold Obligations.ColdResetClearsPaging
  intro c s hc
  obtain ⟨cause, hexec⟩ : ∃ cause, exec c s = .next (coldState s cause) := by
    rcases hc with rfl | rfl
    · exact ⟨.power, exec_powerOn s⟩
    · exact ⟨.pin, exec_resetPin s⟩
  refine ⟨coldState s cause, hexec, fun p => ?_, rfl, fun b => ?_, fun z => ?_, fun r hr => ⟨cause, _, coldState_report hr⟩, rfl⟩
  · rw [coldState_page]; exact ⟨rfl, rfl, rfl⟩
  · rw [coldState_bus]; exact ⟨rfl, rfl⟩
  · rw [coldState_zone]; exact ⟨rfl, rfl, rfl, rfl⟩

end Sys2Proof.Machine
end

section
/-!
PROOFS. The end of a page (R125) and PAGE END (O50): what the end makes of the page's record, of its bus and of its zones.
-/

namespace Sys2Proof.Machine

/-! ## What the steps of an end keep -/

@[simp] theorem dropClaim_pgc (s : State) (k : ChannelId) (c : ClaimKind) : (dropClaim s k c).pgc = s.pgc := changeChannel_pgc ..
@[simp] theorem dropClaim_zone (s : State) (k : ChannelId) (c : ClaimKind) (z : ZoneId) :
    (dropClaim s k c).zone z = s.zone z := changeChannel_zone ..

@[simp] theorem resumePage_zone (s : State) (p : PageId) (z : ZoneId) : (resumePage s p).zone z = s.zone z := by
  unfold resumePage; split <;> rfl

theorem setRoute_zone_ne (s : State) {z y : ZoneId} (r : Setting) (hy : y ≠ z) : (setRoute s z r).zone y = s.zone y := by
  rw [setRoute, setPendingRoute_zone, State.modZone_ne _ _ hy]

/-- A route changes neither what a zone stacks nor what it plays. -/
theorem setRoute_stack (s : State) (z y : ZoneId) (r : Setting) : ((setRoute s z r).zone y).stack = (s.zone y).stack := by
  rw [setRoute, setPendingRoute_zone, State.modZone_apply]
  split
  · rename_i h; rw [h]
  · rfl

/-- A view that each change keeps is kept by a fold of them. -/
theorem foldl_keeps {α β : Type} (view : State → β) {f : State → α → State} (hf : ∀ s a, view (f s a) = view s) (l : List α)
    (s : State) : view (l.foldl f s) = view s := by
  induction l generalizing s with
  | nil => rfl
  | cons a l ih => exact (ih (f s a)).trans (hf s a)

/-- The buses, and of every page its generation and its bus. -/
def busSide (s : State) : Vector Bus 8 × (PageId → Byte × Option BusId) :=
  (s.pgc.buses, fun q => ((s.page q).gen, (s.page q).bus))

theorem busSide_of_pgc {s t : State} (h : t.pgc = s.pgc) : busSide t = busSide s := by
  simp only [busSide, State.page, h]

theorem busSide_modPage (s : State) (p : PageId) {f : Page → Page} (hf : ∀ r, ((f r).gen, (f r).bus) = (r.gen, r.bus)) :
    busSide (s.modPage p f) = busSide s := by
  refine Prod.ext rfl (funext fun q => ?_)
  dsimp only [busSide]
  rw [State.modPage_apply]
  split
  · rename_i h; rw [hf, h]
  · rfl

theorem busSide_resumePage (s : State) (p : PageId) : busSide (resumePage s p) = busSide s := by
  unfold resumePage
  split
  · exact (busSide_of_pgc rfl).trans (busSide_modPage s p fun _ => rfl)
  · rfl

/-! ## The zones of an ending page -/

/-- A zone with nothing stacked goes IDLE. -/
theorem popZone_idle {s : State} {z : ZoneId} (h : (s.zone z).stack = []) :
    popZone s z = setRoute (s.modZone z fun d => { d with playing := none }) z none := by
  simp only [popZone, h, List.getLast?_nil]

/-- A zone that pops its stack leaves the other zones. -/
theorem popZone_zone_ne (s : State) {z y : ZoneId} (hy : y ≠ z) : (popZone s z).zone y = s.zone y := by
  unfold popZone
  split
  · rw [setRoute_zone_ne _ _ hy, State.modZone_ne _ _ hy]
  · rw [resumePage_zone, setRoute_zone_ne _ _ hy, State.modPage_zone, State.modZone_ne _ _ hy]

theorem busSide_popZone (s : State) (z : ZoneId) : busSide (popZone s z) = busSide s := by
  unfold popZone
  split
  · exact busSide_of_pgc (setRoute_pgc ..)
  · rw [busSide_resumePage, busSide_of_pgc (setRoute_pgc ..)]
    exact busSide_modPage _ _ fun _ => rfl

/-- The zones gone through pop their stacks, and no other zone changes. -/
theorem popZones_others {zs : List ZoneId} {z : ZoneId} (hz : z ∉ zs) (s : State) :
    (zs.foldl popZone s).zone z = s.zone z := by
  induction zs generalizing s with
  | nil => rfl
  | cons y ys ih =>
    obtain ⟨hy, hys⟩ := List.ne_and_not_mem_of_not_mem_cons hz
    exact (ih hys _).trans (popZone_zone_ne s hy)

/-- A zone with nothing stacked that is gone through, or is IDLE already, is IDLE afterwards. -/
theorem popZones_idle {zs : List ZoneId} {s : State} {z : ZoneId} (hs : (s.zone z).stack = [])
    (hz : z ∈ zs ∨ (s.zone z).playing = none) : ((zs.foldl popZone s).zone z).playing = none := by
  induction zs generalizing s with
  | nil => simpa using hz
  | cons y ys ih =>
    by_cases hy : z = y
    · subst hy
      refine ih ?_ (.inr ?_)
      · rw [popZone_idle hs, setRoute_stack, State.modZone_same]; exact hs
      · rw [popZone_idle hs, setRoute_playing, State.modZone_same]
    · have same := popZone_zone_ne s hy
      refine ih (same ▸ hs) ?_
      rw [same]
      simpa [hy] using hz

/-! ## The claims of an ending page -/

/-- A view that a dropped claim and a zone's choice of channel keep sees of a page's dropped claims its beacons alone. -/
theorem dropPageClaims_view {β : Type} (view : State → β) (s : State) (p : PageId)
    (claim : ∀ u k c, view (dropClaim u k c) = view u) (follow : ∀ u z, view (refollow u z) = view u) :
    view (dropPageClaims s p) = view (s.modPage p fun r => { r with beacons := [] }) := by
  unfold dropPageClaims
  extract_lets r s1 s2 s3 s4
  have h2 : view s2 = view s1 := foldl_keeps view (fun u _ => claim u _ _) _ s1
  have h3 : view s3 = view s2 := by
    show view (if _ then _ else _) = _
    split
    · exact claim ..
    · rfl
  have h4 : view s4 = view s3 := by
    show view (match r.source, r.bus with
      | .tone k _, some _ => dropClaim s3 k .tone
      | _, _ => s3) = _
    split
    · exact claim ..
    · rfl
  exact (foldl_keeps view follow _ s4).trans (h4.trans (h3.trans h2))

theorem dropPageClaims_pgc (s : State) (p : PageId) :
    (dropPageClaims s p).pgc = (s.modPage p fun r => { r with beacons := [] }).pgc :=
  dropPageClaims_view State.pgc s p dropClaim_pgc refollow_pgc

theorem dropPageClaims_beacons (s : State) (p : PageId) : ((dropPageClaims s p).page p).beacons = [] := by
  rw [State.page, dropPageClaims_pgc, ← State.page, State.modPage_same]

theorem busSide_dropPageClaims (s : State) (p : PageId) : busSide (dropPageClaims s p) = busSide s :=
  (busSide_of_pgc (dropPageClaims_pgc s p)).trans (busSide_modPage s p fun _ => rfl)

theorem dropPageClaims_playing (s : State) (p : PageId) (z : ZoneId) :
    ((dropPageClaims s p).zone z).playing = (s.zone z).playing :=
  dropPageClaims_view (fun u => (u.zone z).playing) s p (fun u k c => by rw [dropClaim_zone]) fun u y => refollow_playing u y z

/-! ## The end of a page, step by step -/

/-- The page leaves the page queue (R125). -/
def leavesPageQueue (s : State) (p : PageId) : State := { s with pgc := { s.pgc with queue := s.pgc.queue.erase p } }

/-- Its audible zones pop their stacks (R125 step 2). -/
def endZones (s : State) (p : PageId) : State := (s.page p).audible.foldl popZone (leavesPageQueue s p)

/-- It leaves the stack of a zone. -/
def unstack (p : PageId) (s : State) (z : ZoneId) : State := s.modZone z fun d => { d with stack := d.stack.erase p }

/-- It leaves the stacks it stands on, and its claims are dropped (R125 steps 3 and 4). -/
def endLeaves (s : State) (p : PageId) : State :=
  dropPageClaims (((endZones s p).page p).suspended.foldl (unstack p) (endZones s p)) p

/-- The bus of the page becomes free (R125). -/
def endBus (s : State) (p : PageId) : State :=
  match (s.page p).bus with
  | some b => s.modBus b fun _ => Bus.free
  | none => s

/-- The record of a page that has ended. -/
def Page.endedBy (cause : EndCause) (r : Page) : Page :=
  { r with audible := [], suspended := [], bus := none, waitDl := none, preludeDl := none, endDl := none,
           state := .ended, endCause := some cause }

section End

variable (s : State) (p : PageId)

theorem endPageNoScan_eq (cause : EndCause) : endPageNoScan s p cause =
    ownerTakesEnd (pageNotice ((dropVoicePage (endBus (endLeaves s p) p) p).modPage p (Page.endedBy cause)) p .ended) p cause :=
  rfl

theorem unstack_playing (y z : ZoneId) : ((unstack p s y).zone z).playing = (s.zone z).playing := by
  rw [unstack, State.modZone_apply]
  split
  · rename_i h; rw [h]
  · rfl

theorem busSide_endLeaves : busSide (endLeaves s p) = busSide s := by
  have zones : busSide (endZones s p) = busSide s := foldl_keeps busSide busSide_popZone _ (leavesPageQueue s p)
  exact (busSide_dropPageClaims ..).trans ((foldl_keeps busSide (f := unstack p) (fun _ _ => rfl) _ _).trans zones)

theorem endLeaves_page : ((endLeaves s p).page p).gen = (s.page p).gen ∧ ((endLeaves s p).page p).bus = (s.page p).bus :=
  Prod.mk.inj (congrFun (congrArg Prod.snd (busSide_endLeaves s p)) p)

theorem endLeaves_bus (b : BusId) : (endLeaves s p).bus b = s.bus b :=
  congrArg (fun v : Vector Bus 8 => v[b]) (congrArg Prod.fst (busSide_endLeaves s p))

/-- What a zone plays is settled when the page's audible zones have popped their stacks. -/
theorem endLeaves_playing (z : ZoneId) : ((endLeaves s p).zone z).playing = ((endZones s p).zone z).playing :=
  (dropPageClaims_playing _ p z).trans (foldl_keeps (fun u => (u.zone z).playing) (fun u y => unstack_playing u p y z) _ _)

@[simp] theorem endBus_page (q : PageId) : (endBus s p).page q = s.page q := by unfold endBus; split <;> rfl
@[simp] theorem endBus_zone (z : ZoneId) : (endBus s p).zone z = s.zone z := by unfold endBus; split <;> rfl

theorem endBus_bus (b : BusId) : (endBus s p).bus b = if (s.page p).bus = some b then Bus.free else s.bus b := by
  unfold endBus
  split
  · rename_i a ha
    simp only [State.modBus_apply, ha, Option.some.injEq, eq_comm]
  · rename_i ha
    simp [ha]

@[simp] theorem dropVoicePage_pgc : (dropVoicePage s p).pgc = s.pgc := by unfold dropVoicePage; split <;> rfl
@[simp] theorem dropVoicePage_flc : (dropVoicePage s p).flc = s.flc := by unfold dropVoicePage; split <;> rfl

/-- The owner of the page's origin touches neither the Paging Controller nor the zones. -/
theorem ownerTakesEnd_frame (cause : EndCause) :
    (ownerTakesEnd s p cause).pgc = s.pgc ∧ (ownerTakesEnd s p cause).flc = s.flc := by
  unfold ownerTakesEnd
  split
  · exact ⟨rfl, rfl⟩
  · split <;> exact ⟨rfl, rfl⟩
  · exact ⟨rfl, rfl⟩

/-- The Paging Controller after an end: the page's record is closed, and its bus is free. -/
theorem endPageNoScan_pgc (cause : EndCause) :
    (endPageNoScan s p cause).pgc = ((endBus (endLeaves s p) p).modPage p (Page.endedBy cause)).pgc := by
  rw [endPageNoScan_eq, (ownerTakesEnd_frame ..).1, pageNotice, queueReport_pgc, State.modPage, dropVoicePage_pgc]
  rfl

theorem endPageNoScan_page (cause : EndCause) :
    (endPageNoScan s p cause).page p = ((endLeaves s p).page p).endedBy cause := by
  rw [State.page, endPageNoScan_pgc, ← State.page, State.modPage_same, endBus_page]

theorem endPageNoScan_gen (cause : EndCause) : ((endPageNoScan s p cause).page p).gen = (s.page p).gen := by
  rw [endPageNoScan_page]
  exact (endLeaves_page s p).1

theorem endPageNoScan_beacons (cause : EndCause) : ((endPageNoScan s p cause).page p).beacons = [] := by
  rw [endPageNoScan_page]
  exact dropPageClaims_beacons ..

theorem endPageNoScan_bus (cause : EndCause) (b : BusId) :
    (endPageNoScan s p cause).bus b = if (s.page p).bus = some b then Bus.free else s.bus b := by
  rw [State.bus, endPageNoScan_pgc, ← State.bus, State.modPage_bus, endBus_bus, (endLeaves_page s p).2, endLeaves_bus]

theorem endPageNoScan_zone (cause : EndCause) (z : ZoneId) :
    (endPageNoScan s p cause).zone z = (endLeaves s p).zone z := by
  have hflc : (endPageNoScan s p cause).flc = (endBus (endLeaves s p) p).flc := by
    rw [endPageNoScan_eq, (ownerTakesEnd_frame ..).2, pageNotice, queueReport_flc, State.modPage_flc, dropVoicePage_flc]
  rw [State.zone, hflc, ← State.zone, endBus_zone]

/-- A zone that the page played in goes IDLE when no page is stacked in it. -/
theorem endPageNoScan_idle (cause : EndCause) {z : ZoneId} (hz : z ∈ (s.page p).audible) (hs : (s.zone z).stack = []) :
    ((endPageNoScan s p cause).zone z).playing = none := by
  rw [endPageNoScan_zone, endLeaves_playing]
  exact popZones_idle hs (.inl hz)

/-- A zone that the page did not play in plays what it played. -/
theorem endPageNoScan_playing (cause : EndCause) {z : ZoneId} (hz : z ∉ (s.page p).audible) :
    ((endPageNoScan s p cause).zone z).playing = (s.zone z).playing := by
  rw [endPageNoScan_zone, endLeaves_playing, endZones, popZones_others hz]
  rfl

end End

/-! ## PAGE END -/

/-- The checks of a PAGE END in RUN, in their order. -/
theorem pageEndOwner_run {s : State} {page generation : Byte} {requester : Half} {p : PageId} {r : Requester}
    (hm : s.running = true) (hp : readFin 16 page.toNat = some p) (hr : readRequester requester = some r) :
    pageEndOwner page generation requester s =
      if staleGen generation (s.page p).gen then .refuse .stale
      else if (s.page p).state = .ended then .refuse .wrongState
      else if ¬ mayEnd r (s.page p).origin then .refuse .denied
      else .ok (endPage s p .released) [(s.page p).state.code] := by
  simp only [pageEndOwner, hm, hp, hr, not_true_eq_false, if_false]

/-- The console may end every page, a station its own. -/
theorem mayEnd_iff {r : Requester} {o : Origin} :
    mayEnd r o = true ↔ r = .console ∨ ∃ x, r = .station x ∧ o = .station x := by
  cases r with
  | console => simp [mayEnd]
  | station x => simp [mayEnd, Requester.origin]

/-- Settles O50: the owner's checks in their order; then the end, before its scan, by its record, its bus and its zones. -/
theorem pageEndReleasesThePage : Obligations.PageEndReleasesThePage := by
  unfold Obligations.PageEndReleasesThePage
  refine ⟨fun h page generation requester s p r hr hm hp hq => ?_, fun s p cause => ?_⟩
  · have checks := pageEndOwner_run (s := framerHunt s) (generation := generation) (framerHunt_running hm) hp hq
    rw [framerHunt_page] at checks
    have refused {e : Code} (ho : pageEndOwner page generation requester (framerHunt s) = .refuse e) :
        exec (.pageEnd h page generation requester) s = .next (replied (framerHunt s) 0x3B h e []) :=
      received_refused hr (by simp) ho
    refine ⟨fun h0 hne => refused (checks.trans (if_pos (staleGen_true h0 hne))), fun hgen hended => ?_, fun hgen hlive => ?_⟩
    · exact refused (checks.trans (by rw [if_neg (ne_true_of_eq_false (staleGen_false hgen)), if_pos hended]))
    rw [if_neg (ne_true_of_eq_false (staleGen_false hgen)), if_neg hlive] at checks
    refine ⟨fun x hx ho => ?_, fun hmay => ?_⟩
    · have hno : ¬ mayEnd r (s.page p).origin = true := by
        rw [mayEnd_iff]
        rintro (hc | ⟨y, hy, hoy⟩)
        · exact Requester.noConfusion (hx.symm.trans hc)
        · exact ho (Requester.station.inj (hx.symm.trans hy) ▸ hoy)
      exact refused (checks.trans (if_pos hno))
    · exact received_taken hr (by simp) (checks.trans (if_neg (not_not_intro (mayEnd_iff.mpr hmay))))
  · intro t
    have hpage : t.page p = ((endLeaves s p).page p).endedBy cause := endPageNoScan_page s p cause
    have hgen : (t.page p).gen = (s.page p).gen := endPageNoScan_gen s p cause
    have hbeacons : (t.page p).beacons = [] := endPageNoScan_beacons s p cause
    rw [hpage] at hgen hbeacons ⊢
    exact ⟨rfl, rfl, rfl, hgen, rfl, rfl, hbeacons, rfl, rfl, rfl, rfl,
      fun b hb => (endPageNoScan_bus s p cause b).trans (if_pos hb), fun b hb => (endPageNoScan_bus s p cause b).trans (if_neg hb),
      fun z => endPageNoScan_idle s p cause, fun z => endPageNoScan_playing s p cause⟩

end Sys2Proof.Machine
end

section
/-!
PROOFS. The expiries of a page's deadlines (O51), and the end of its prelude (O52).
-/

namespace Sys2Proof.Machine

/-- Two changes that agree on the page as it stands are one. -/
theorem State.modPage_congr {s : State} {p : PageId} {f k : Page → Page} (h : f (s.page p) = k (s.page p)) :
    s.modPage p f = s.modPage p k := by
  have hf : f s.pgc.pages[p] = k s.pgc.pages[p] := h
  simp only [State.modPage, upd, hf]

/-! ## Deadlines -/

/-- A deadline that has just come is due. -/
theorem due_now {now : Tick} {dl : Option Tick} (h : dl = some now) : due now dl = true := by simp [h, due, reached]

/-- A deadline less than half the counter's range ahead is not due. -/
theorem not_due_ahead (base : Tick) {ahead length : Nat} (h : ahead < length) (hl : length < 2 ^ 31) :
    due (base + BitVec.ofNat 32 ahead) (some (base + BitVec.ofNat 32 length)) = false := by
  simp only [due, reached, decide_eq_false_iff_not]
  bv_omega

theorem not_due_after (now : Tick) {length : Nat} (h : 0 < length) (hl : length < 2 ^ 31) :
    due now (some (now + BitVec.ofNat 32 length)) = false := by
  have ahead := not_due_ahead now h hl
  rwa [BitVec.add_zero] at ahead

theorem remaining_after_le (now : Tick) (n : Nat) : remaining now (now + BitVec.ofNat 32 n) ≤ n := by
  unfold remaining
  split
  · exact Nat.zero_le n
  · rw [BitVec.add_comm, BitVec.add_sub_cancel, BitVec.toNat_ofNat]
    exact Nat.mod_le ..

/-! ## The wait and end deadlines -/

theorem Page.started_iff {r : Page} : r.started = true ↔ r.state = .prelude ∨ r.state = .playing ∨ r.state = .held := by
  simp [Page.started, or_assoc]

theorem exec_waitTimeout_due {s : State} {p : PageId} (hs : (s.page p).state = .queued)
    (hd : due s.now (s.page p).waitDl = true) : exec (.waitTimeout p) s = .next (finish (endPage s p .waitTimeout)) := by
  show execWaitTimeout p s = _
  rw [execWaitTimeout, if_pos ⟨hs, hd⟩]

theorem exec_endDeadlineExpiry_due {s : State} {p : PageId} (hs : (s.page p).started = true)
    (hd : due s.now (s.page p).endDl = true) : exec (.endDeadlineExpiry p) s = .next (finish (endPage s p .expired)) := by
  show execEndDeadlineExpiry p s = _
  rw [execEndDeadlineExpiry, if_pos ⟨hs, hd⟩]

/-- An end deadline that is not due expires nothing. -/
theorem exec_endDeadlineExpiry_early {s : State} {p : PageId} (h : due s.now (s.page p).endDl = false) :
    exec (.endDeadlineExpiry p) s = .next s :=
  congrArg _ (if_neg fun ⟨_, hd⟩ => absurd (h.symm.trans hd) Bool.false_ne_true)

/-- An extension that reaches at least as far as the end deadline sets it. -/
theorem extendPage_moves {s : State} {p : PageId} {length : Nat} {old : Tick} (hlive : (s.page p).live = true)
    (hold : (s.page p).endDl = some old) (hr : remaining s.now old ≤ length) :
    extendPage s p (s.page p).gen length = s.modPage p fun r => { r with endDl := some (after s.now length) } := by
  rw [extendPage, if_pos ⟨hlive, rfl⟩]
  refine State.modPage_congr ?_
  simp only [hold]
  exact if_neg (Nat.not_lt.mpr hr)

/-- Settles O51: a deadline that has come is due and ends its page; one that an extension has moved ahead is not due, neither
at once nor at its old value. -/
theorem deadlinesEndPages : Obligations.DeadlinesEndPages := by
  unfold Obligations.DeadlinesEndPages
  intro s p
  refine ⟨fun hs hd => ?_, fun hs hd => ?_, fun length old hlive hold hpos hlt hr => ?_,
    fun length ahead hlive hold hlt hmax => ?_⟩
  · exact exec_waitTimeout_due hs (due_now hd)
  · exact exec_endDeadlineExpiry_due (Page.started_iff.mpr hs) (due_now hd)
  · intro t
    have ht : t = _ := extendPage_moves hlive hold hr
    have hend : (t.page p).endDl = some (s.sct.tick + BitVec.ofNat 32 length) := by rw [ht, State.modPage_same]; rfl
    have hnow : t.now = s.sct.tick := by rw [ht]; rfl
    refine ⟨hend, exec_endDeadlineExpiry_early ?_⟩
    rw [hend, hnow]
    exact not_due_after s.sct.tick hpos hlt
  · intro t u
    have ht : t = _ := extendPage_moves hlive hold (Nat.le_trans (remaining_after_le s.sct.tick ahead) (Nat.le_of_lt hlt))
    have hpage : u.page p = t.page p := rfl
    have hend : (u.page p).endDl = some (s.sct.tick + BitVec.ofNat 32 length) := by
      rw [hpage, ht, State.modPage_same]; rfl
    refine ⟨hend, exec_endDeadlineExpiry_early ?_⟩
    have hnow : u.now = s.sct.tick + BitVec.ofNat 32 ahead := rfl
    rw [hend, hnow]
    exact not_due_ahead s.sct.tick hlt hmax

/-! ## The end of a prelude -/

@[simp] theorem dropClaim_page (s : State) (k : ChannelId) (c : ClaimKind) (q : PageId) :
    (dropClaim s k c).page q = s.page q := congrArg (fun g : Pgc => g.pages[q]) (dropClaim_pgc s k c)

section
variable {s : State} {p : PageId} {b : BusId}

theorem takeMainSource_slot {n : SlotId} (h : (s.page p).source = .slot n) :
    takeMainSource s p b = s.modBus b fun d => { d with source := .slot n } := by
  simp only [takeMainSource, h]

theorem takeMainSource_prompt {n : Byte} (h : (s.page p).source = .prompt n) : takeMainSource s p b =
    queueReport (s.modBus b fun d => { d with source := .prompt }) (.playPrompt p (s.page p).gen b n) := by
  simp only [takeMainSource, h]

theorem takeMainSource_tone {k : ChannelId} {t : ToneId} (h : (s.page p).source = .tone k t) :
    takeMainSource s p b = placeClaim (s.modBus b fun d => { d with source := .tone k t }) k .tone := by
  simp only [takeMainSource, h]

theorem exec_preludeExpiry_due (hb : (s.page p).bus = some b) (hd : due s.now (s.page p).preludeDl = true) :
    exec (.preludeExpiry p) s = .next (finish (preludeEnds s p b)) := by
  show execPreludeExpiry p s = _
  simp only [execPreludeExpiry, hb, hd, if_true]

theorem exec_preludeExpiry_early (hb : (s.page p).bus = some b) (hd : due s.now (s.page p).preludeDl = false) :
    exec (.preludeExpiry p) s = .next s := by
  show execPreludeExpiry p s = _
  simp only [execPreludeExpiry, hb, hd, Bool.false_eq_true, if_false]

end

/-- The prelude's deadline is cleared and its claim dropped (R123). -/
def preludeCleared (s : State) (p : PageId) : State :=
  dropClaim (s.modPage p fun r => { r with preludeDl := none }) (s.page p).preludeChannel .prelude

theorem preludeCleared_page (s : State) (p : PageId) : (preludeCleared s p).page p = { s.page p with preludeDl := none } :=
  (dropClaim_page ..).trans (State.modPage_same ..)

/-- A prelude that ends in PRELUDE or HELD is cleared, its page takes its main source, and PRELUDE becomes PLAYING. -/
theorem preludeEnds_eq {s : State} {p : PageId} (b : BusId) (hs : (s.page p).state = .prelude ∨ (s.page p).state = .held) :
    preludeEnds s p b = (takeMainSource (preludeCleared s p) p b).modPage p fun d =>
      { d with state := if (s.page p).state = .prelude then .playing else .held } := by
  have cleared : dropClaim (s.modPage p fun r => { r with preludeDl := none })
      ((s.modPage p fun r => { r with preludeDl := none }).page p).preludeChannel .prelude = preludeCleared s p := by
    rw [State.modPage_same]; rfl
  unfold preludeEnds
  dsimp only
  rw [cleared]
  refine State.modPage_congr ?_
  rw [takeMainSource_page, preludeCleared_page]
  rcases hs with hs | hs <;> simp [hs]

/-- Settles O52: the end of the prelude by the page's main source. -/
theorem preludeEndsInTheMainSource : Obligations.PreludeEndsInTheMainSource := by
  unfold Obligations.PreludeEndsInTheMainSource
  intro s p b hb
  refine ⟨exec_preludeExpiry_early hb, fun hd hs => ?_⟩
  intro r u st
  have hpage : u.page p = { s.page p with preludeDl := none } := preludeCleared_page s p
  have ends {v : State} (hv : takeMainSource u p b = v) : exec (.preludeExpiry p) s = .next (finish (st v)) := by
    rw [exec_preludeExpiry_due hb hd, preludeEnds_eq b hs]
    exact hv ▸ rfl
  have source : (u.page p).source = r.source := by rw [hpage]
  have gen : (u.page p).gen = r.gen := by rw [hpage]
  refine ⟨fun n hn => ?_, fun n hn => ?_, fun k t hn => ?_⟩
  · exact ends (takeMainSource_slot (source.trans hn))
  · exact ends (gen ▸ takeMainSource_prompt (source.trans hn))
  · exact ends (takeMainSource_tone (source.trans hn))

end Sys2Proof.Machine
end

section
/-!
PROOFS. CADENCE SET (O28): what the beginning of a period and the write of a slot do to a channel's record, and what becomes of the
request's reply and of the pending alert broadcast.
-/

namespace Sys2Proof.Machine

/-! ## The beginning of a period and the write of a slot -/

namespace Channel

variable (c : Channel) (sl : Slot) (v : Cadence) (now : Tick)

/-- The slot that the next period runs. -/
def nextSlot : Slot := if c.pending then c.active.other else c.active

/-- The channel with `v` in a slot, and nothing done about it yet. -/
def store : Channel :=
  match sl with
  | .a => { c with slotA := v }
  | .b => { c with slotB := v }

theorem beginPeriod_eq : c.beginPeriod now =
    { c with active := c.nextSlot, pending := false, phase := 0, stepTick := now,
             output := decide (0 < (c.slot c.nextSlot).on) } := by
  obtain ⟨_, _, _, pending, _, _, _, _, _⟩ := c
  cases pending <;> rfl

theorem beginPeriod_slot (x : Slot) : (c.beginPeriod now).slot x = c.slot x := by rw [beginPeriod_eq]; rfl
theorem beginPeriod_running : (c.beginPeriod now).running = c.running := by rw [beginPeriod_eq]
theorem beginPeriod_claims : (c.beginPeriod now).claims = c.claims := by rw [beginPeriod_eq]

theorem store_slot : (c.store sl v).slot sl = v := by cases sl <;> rfl
theorem store_slot_other : (c.store sl v).slot sl.other = c.slot sl.other := by cases sl <;> rfl
theorem store_slot_ne {x : Slot} (h : x ≠ sl) : (c.store sl v).slot x = c.slot x := by
  cases sl <;> cases x <;> simp_all [store, slot]

@[simp] theorem store_active : (c.store sl v).active = c.active := by cases sl <;> rfl
@[simp] theorem store_pending : (c.store sl v).pending = c.pending := by cases sl <;> rfl
@[simp] theorem store_running : (c.store sl v).running = c.running := by cases sl <;> rfl
@[simp] theorem store_phase : (c.store sl v).phase = c.phase := by cases sl <;> rfl
@[simp] theorem store_stepTick : (c.store sl v).stepTick = c.stepTick := by cases sl <;> rfl
@[simp] theorem store_output : (c.store sl v).output = c.output := by cases sl <;> rfl
@[simp] theorem store_claims : (c.store sl v).claims = c.claims := by cases sl <;> rfl

variable {c sl v}

/-- The inactive slot becomes pending. -/
theorem write_inactive (h : sl ≠ c.active) : c.write sl v now = { c.store sl v with pending := true } := if_pos h

/-- The active slot of a STOPPED channel is only stored. -/
theorem write_stopped (h : sl = c.active) (hr : c.running = false) : c.write sl v now = c.store sl v :=
  (if_neg (not_not.mpr h)).trans (if_pos (by simp [hr]))

/-- The active slot of a RUNNING channel that is past the new period ends the period. -/
theorem write_ends (h : sl = c.active) (hr : c.running = true) (hp : v.period ≤ c.phase) :
    c.write sl v now = (c.store sl v).beginPeriod now :=
  (if_neg (not_not.mpr h)).trans ((if_neg (not_not.mpr hr)).trans (if_pos hp))

/-- The active slot of a RUNNING channel within the new period sets the output by the phase. -/
theorem write_within (h : sl = c.active) (hr : c.running = true) (hp : c.phase < v.period) :
    c.write sl v now = { c.store sl v with output := decide (c.phase < v.on) } :=
  (if_neg (not_not.mpr h)).trans ((if_neg (not_not.mpr hr)).trans (if_neg (Nat.not_le.mpr hp)))

/-- A property of a written channel, by the four cases of R142. -/
theorem write_cases {P : Channel → Prop} (sl : Slot) (v : Cadence)
    (inactive : sl ≠ c.active → P { c.store sl v with pending := true })
    (stopped : sl = c.active → c.running = false → P (c.store sl v))
    (ends : sl = c.active → c.running = true → v.period ≤ c.phase → P ((c.store sl v).beginPeriod now))
    (within : sl = c.active → c.running = true → c.phase < v.period →
      P { c.store sl v with output := decide (c.phase < v.on) }) : P (c.write sl v now) := by
  by_cases h : sl = c.active
  · cases hr : c.running with
    | false => exact write_stopped now h hr ▸ stopped h hr
    | true =>
      rcases Nat.lt_or_ge c.phase v.period with hp | hp
      · exact write_within now h hr hp ▸ within h hr hp
      · exact write_ends now h hr hp ▸ ends h hr hp
  · exact write_inactive now h ▸ inactive h

/-- What CADENCE SET does to a channel in every case: the slot holds the cadence; the other slot, the claims and the run
state stay. -/
structure WritesSlot (c : Channel) (sl : Slot) (v : Cadence) (d : Channel) : Prop where
  slot : d.slot sl = v
  other : d.slot sl.other = c.slot sl.other
  claims : d.claims = c.claims
  running : d.running = c.running

theorem store_writesSlot (c : Channel) (sl : Slot) (v : Cadence) : WritesSlot c sl v (c.store sl v) :=
  ⟨c.store_slot sl v, c.store_slot_other sl v, c.store_claims sl v, c.store_running sl v⟩

theorem write_writesSlot (c : Channel) (sl : Slot) (v : Cadence) : WritesSlot c sl v (c.write sl v now) := by
  have stored := store_writesSlot c sl v
  apply write_cases
  · exact fun _ => ⟨stored.slot, stored.other, stored.claims, stored.running⟩
  · exact fun _ _ => stored
  · exact fun _ _ _ => ⟨(beginPeriod_slot ..).trans stored.slot, (beginPeriod_slot ..).trans stored.other,
      (beginPeriod_claims ..).trans stored.claims, (beginPeriod_running ..).trans stored.running⟩
  · exact fun _ _ _ => ⟨stored.slot, stored.other, stored.claims, stored.running⟩

end Channel

/-! ## CADENCE SET -/

@[simp] theorem replied_channel (t : State) (kind : Byte) (h : Header) (code : Code) (fields : List Byte) (k : ChannelId) :
    (replied t kind h code fields).channel k = t.channel k := by simp [replied]

theorem outputWord_replied (t : State) (kind : Byte) (h : Header) (code : Code) (fields : List Byte) :
    outputWord (replied t kind h code fields) = outputWord t := by simp [outputWord]

/-- A CADENCE SET that the part takes is one `changeChannel` by `Channel.write`, replied with the channel it leaves. -/
theorem exec_cadenceSet {h : Header} {channel slot : Byte} {period onTicks : Half} {s : State} {k : ChannelId} {sl : Slot}
    {v : Cadence} (hr : received s h 6) (hk : readFin 16 channel.toNat = some k) (hsl : readSlot slot = some sl)
    (hv : readCadence period onTicks = some v) (hs : s.isSaving = false) :
    let t := changeChannel (framerHunt s) k fun c => c.write sl v s.now
    exec (.cadenceSet h channel slot period onTicks) s = .next (replied t 0x0C h .ok (t.channel k).replyFields) := by
  have saving : ¬ (framerHunt s).isSaving = true := by simp [State.isSaving] at hs ⊢; exact hs
  exact received_taken hr (by simp) (by simp only [cadenceSetOwner, hk, hsl, hv, if_neg saving]; rfl)

/-- Settles O28: the request is one `changeChannel` by `Channel.write`, which has an equation for each case of R142. -/
theorem cadenceSetWritesOneSlot : Obligations.CadenceSetWritesOneSlot := by
  unfold Obligations.CadenceSetWritesOneSlot
  intro h channel slot period onTicks s k sl v hr hk hsl hv hs
  have hexec := exec_cadenceSet hr hk hsl hv hs
  obtain ⟨hsct, hde, hppu, hpdir, hpgc, hcs⟩ := changeChannel_others (framerHunt s) k fun c => c.write sl v s.now
  have hsame := changeChannel_same (framerHunt s) k fun c => c.write sl v s.now
  have hne := fun j hj => changeChannel_ne (framerHunt s) (k := k) (j := j) (fun c => c.write sl v s.now) hj
  have hflc := changeChannel_flc (framerHunt s) k fun c => c.write sl v s.now
  generalize changeChannel (framerHunt s) k (fun c => c.write sl v s.now) = u at *
  have hchan : u.channel k = (s.channel k).write sl v s.now := hsame
  obtain ⟨hslot, hother, hclaims, hrunning⟩ := Channel.write_writesSlot s.now (s.channel k) sl v
  refine ⟨_, hexec, ?_, ?_⟩
  · rw [replied_channel]; exact replied_hasReply ..
  simp only [replied_channel, replied_sct, replied_de, replied_pdir, replied_pgc, replied_cs, replied_flc, outputWord_replied,
    hchan]
  refine ⟨fun j hj => hne j hj, hslot, hother, hclaims, hrunning, fun hi => ?_, fun ha hstop => ?_, fun ha hrun hp => ?_,
    fun ha hrun hp => ?_, fun ho => ?_, fun ho => ?_, hsct, hde, ?_, hpdir, hpgc, hcs, ?_⟩
  · rw [Channel.write_inactive _ hi]; simp
  · rw [Channel.write_stopped _ ha hstop]; simp
  · rw [Channel.write_within _ ha hrun hp]; simp
  · rw [Channel.write_ends _ ha hrun hp, Channel.beginPeriod_eq]
    exact ⟨rfl, rfl, rfl, by simp [Channel.nextSlot, ha], rfl⟩
  · rw [hflc]; simp [ho]
  · rw [hflc]; simp [ho]
  · simp [replied, hppu]
  · rw [hflc]; split <;> simp

end Sys2Proof.Machine
end

section
/-!
PROOFS. The alert channels and their claims: the rules for a change that keeps the channels in agreement (most operations are quiet,
and `Quiet` says so of them), what an advance and a write of a slot do to the agreement, and what a request needs of its owner.
-/

namespace Sys2Proof.Machine

open Quiet

/-! ## Changes that keep the channels in agreement -/

/-- The change from `s` to `t` keeps the channels in agreement with their claims. -/
structure KeepsChannels (s t : State) : Prop where
  agree : ChannelsFollowClaims s → ChannelsFollowClaims t

theorem Quiet.keeps {s t : State} (h : Quiet s t) : KeepsChannels s t := ⟨h.channels⟩

namespace KeepsChannels

variable {s t u : State}

theorem refl (s : State) : KeepsChannels s s := ⟨id⟩

theorem trans (h : KeepsChannels s t) (k : KeepsChannels t u) : KeepsChannels s u := ⟨fun x => k.agree (h.agree x)⟩

/-- A change that leaves the Alert Generator alone. -/
theorem of_ag (h : t.ag = s.ag) : KeepsChannels s t := ⟨fun hs k => by
  have hk : t.channel k = s.channel k := by unfold State.channel; rw [h]
  rw [hk]; exact hs k⟩

/-- A change that keeps the channels, after one that leaves the Alert Generator alone. -/
theorem after (k : KeepsChannels t u) (h : t.ag = s.ag) : KeepsChannels s u := (of_ag h).trans k

/-- The same, before one that leaves the Alert Generator alone. -/
theorem before (k : KeepsChannels s t) (h : u.ag = t.ag) : KeepsChannels s u := k.trans (of_ag h)

theorem finish (h : KeepsChannels s t) : KeepsChannels s (finish t) := h.before (finish_ag t)

theorem lineArbiter (h : KeepsChannels s t) : KeepsChannels s (lineArbiter t) := h.before (lineArbiter_only t).ag

/-- A change of one channel that keeps it in agreement with its claims. -/
theorem changeChannel (k : ChannelId) {f : Channel → Channel} (hf : Agrees (s.channel k) → Agrees (f (s.channel k))) :
    KeepsChannels s (changeChannel s k f) := ⟨fun hs j => by
  by_cases hj : j = k
  · rw [hj, changeChannel_same]; exact hf (hs k)
  · rw [changeChannel_ne s f hj]; exact hs j⟩

end KeepsChannels

/-! ## The cadence of a channel -/

/-- A period that begins keeps the channel in agreement, whatever the phase and the slots were: only its run state must agree. -/
theorem agrees_beginPeriod {c : Channel} (now : Tick) (hr : c.running = true) (hc : c.claims.count ≠ 0) :
    Agrees (c.beginPeriod now) := by
  rw [Channel.beginPeriod_eq]
  exact ⟨⟨fun _ => hc, fun _ => hr⟩, fun h => absurd (hr.symm.trans h) (by decide), fun _ => rfl⟩

/-- An advance keeps a RUNNING channel in agreement (R140). -/
theorem agrees_advance {c : Channel} (now : Tick) (hr : c.running = true) (hc : Agrees c) : Agrees (c.advance now) := by
  rcases Nat.lt_or_ge (c.phase + 1) c.cadence.period with h | h
  · rw [Channel.advance_within now h]
    exact ⟨hc.1, fun h0 => absurd (hr.symm.trans h0) (by decide), fun _ => rfl⟩
  · rw [Channel.advance, if_pos h]
    exact agrees_beginPeriod now hr (hc.1.mp hr)

/-- The write of a slot keeps a channel in agreement (R142). -/
theorem agrees_write (sl : Slot) (v : Cadence) (now : Tick) {c : Channel} (hc : Agrees c) : Agrees (c.write sl v now) := by
  obtain ⟨runs, stopped, outputs⟩ := hc
  have claimed : (c.store sl v).running = true ↔ (c.store sl v).claims.count ≠ 0 := by simpa using runs
  have off : (c.store sl v).running = false → (c.store sl v).output = false ∧ (c.store sl v).phase = 0 := by simpa using stopped
  apply Channel.write_cases
  · intro hi
    refine ⟨claimed, off, fun hr => ?_⟩
    have same : (c.store sl v).cadence = c.cadence := by
      rw [Channel.cadence, Channel.store_active, Channel.store_slot_ne c sl v (Ne.symm hi)]; rfl
    show (c.store sl v).output = decide ((c.store sl v).phase < (c.store sl v).cadence.on)
    rw [same]
    simpa using outputs (by simpa using hr)
  · intro _ hstop
    exact ⟨claimed, off, fun hr => absurd hr (by simp [hstop])⟩
  · intro _ hr _
    exact agrees_beginPeriod now (by simpa using hr) (by simpa using runs.mp hr)
  · intro ha hr _
    refine ⟨claimed, fun h0 => absurd h0 (by simp [hr]), fun _ => ?_⟩
    have on : (c.store sl v).cadence = v := by
      rw [Channel.cadence, Channel.store_active, ← ha, Channel.store_slot]
    show decide (c.phase < v.on) = decide ((c.store sl v).phase < (c.store sl v).cadence.on)
    rw [on, Channel.store_phase]

/-- A channel that a start has STOPPED agrees with its claims, of which it has none. -/
theorem agrees_stopped (a b : Cadence) (now : Tick) : Agrees (Channel.stopped a b now) :=
  ⟨⟨fun h => absurd h Bool.false_ne_true, fun h => absurd rfl h⟩, fun _ => ⟨rfl, rfl⟩,
    fun h => absurd h Bool.false_ne_true⟩

/-! ## Requests -/

/-- An owner's answer to `s` keeps the channels: a refusal always does. -/
inductive AnswerKeeps (s : State) : Answer → Prop where
  | refuse (c : Code) : AnswerKeeps s (.refuse c)
  | ok {t : State} (fields : List Byte) (h : KeepsChannels s t) : AnswerKeeps s (.ok t fields)
  | wait {t : State} (h : KeepsChannels s t) : AnswerKeeps s (.wait t)

namespace AnswerKeeps

variable {s t : State} {a : Answer} {f : List Byte}

theorem quiet (fields : List Byte) (h : Quiet s t) : AnswerKeeps s (.ok t fields) := .ok _ h.keeps

theorem of_ok (h : AnswerKeeps s a) (e : a = .ok t f) : KeepsChannels s t := by
  subst e; cases h; assumption

theorem of_wait (h : AnswerKeeps s a) (e : a = .wait t) : KeepsChannels s t := by
  subst e; cases h; assumption

end AnswerKeeps

/-- An owner answers every state with one that keeps the channels. -/
def OwnerKeeps (owner : State → Answer) : Prop := ∀ s, AnswerKeeps s (owner s)

/-- A request keeps the channels when its owner's answer does. -/
theorem request_keepsChannels {s : State} {kind : Byte} {lengths : List Nat} {h : Header} {owner : State → Answer}
    (ho : OwnerKeeps owner) : KeepsChannels s (request s kind lengths h owner) := ⟨fun hs =>
  request_keeps kind lengths h owner hs (fun _ => id) (fun _ _ => id) (fun _ _ _ _ _ => id)
    (fun u => (KeepsChannels.refl u).finish.agree) (fun _ _ e => ((ho _).of_ok e).agree hs)
    (fun _ e => ((ho _).of_wait e).agree hs)⟩

end Sys2Proof.Machine
end

section
/-!
PROOFS. The requests and the alert channels: the owner of each request that does more than write a table keeps the channels in
agreement with their claims.
-/

namespace Sys2Proof.Machine

open Quiet

/-! ## Configuration requests -/

theorem moveRing_quiet (s : State) (x : StationId) (old new : Option PickupId) : Quiet s (moveRing s x old new) := by
  unfold moveRing
  split
  · split
    · exact rfl' _
    · cases old <;> cases new
      · exact rfl' _
      · exact enterRingList_quiet ..
      · exact leaveRingList_quiet ..
      · exact (leaveRingList_quiet ..).trans (enterRingList_quiet ..)
  · exact rfl' _

theorem stationSetOwner_keeps {x c p v k l} : OwnerKeeps (stationSetOwner x c p v k l) := by
  intro s
  unfold stationSetOwner
  split
  · split
    · exact .refuse _
    · exact .ok _ ((moveRing_quiet ..).keeps.after (s := s) rfl)
  · exact .refuse _

theorem memberAddOwner_keeps {g x w i j} : OwnerKeeps (memberAddOwner g x w i j) := by
  intro s
  have added (g x w pos pref) : KeepsChannels s (addMember s g x w pos pref) := .of_ag rfl
  unfold memberAddOwner
  repeat' split
  any_goals exact .refuse _
  · exact .ok _ ((added ..).trans (offer_quiet _ _).keeps)
  · exact .ok _ (added ..)

theorem removeMember_keeps (s : State) (g : GroupId) (x : StationId) : KeepsChannels s (removeMember s g x) := by
  unfold removeMember
  split
  · exact (ringLeave_quiet ..).keeps.trans
      (((leaveWithoutTried_quiet ..).trans (offer_quiet ..)).keeps.after (t := dropMember _ g x) rfl)
  · exact (offer_quiet ..).keeps.after (t := dropMember s g x) rfl

theorem memberRemoveOwner_keeps {g x} : OwnerKeeps (memberRemoveOwner g x) := by
  intro s
  unfold memberRemoveOwner
  repeat' split
  any_goals exact .refuse _
  exact .ok _ (removeMember_keeps ..)

/-- The claims that a BEACON SET moves or drops are the only part of it that reaches a channel (R74). -/
theorem storeBeacon_keeps (s : State) (g : GroupId) (p : BeaconParams) : KeepsChannels s (storeBeacon s g p) := by
  unfold storeBeacon
  extract_lets old t
  have ht : t.ag = s.ag := rfl
  clear_value t
  split
  · split
    · split
      · exact (beaconOn_quiet ..).keeps.after ht
      · exact .of_ag ht
    · exact .of_ag ht
  · split
    · exact ((modBeacon_quiet ..).trans ((dropClaim_quiet ..).trans (refollowOpt_quiet ..))).keeps.after ht
    · have moved : Quiet t (if p.channel = old.channel then t
          else dropClaim (placeClaim t p.channel .group) old.channel .group) := by
        split
        · exact rfl' _
        · exact (placeClaim_quiet ..).trans (dropClaim_quiet ..)
      exact (moved.trans (refollowPair_quiet ..)).keeps.after ht

theorem beaconSetOwner_keeps {g z k d} : OwnerKeeps (beaconSetOwner g z k d) := by
  intro s
  unfold beaconSetOwner
  repeat' split
  any_goals exact .refuse _
  exact .ok _ (storeBeacon_keeps ..)

theorem cadenceSetOwner_keeps {k v p n} : OwnerKeeps (cadenceSetOwner k v p n) := by
  intro s
  unfold cadenceSetOwner
  repeat' split
  any_goals exact .refuse _
  exact .ok _ (.changeChannel _ fun hc => agrees_write _ _ _ hc)

theorem changeZone_keeps (s : State) (z : ZoneId) (d : Zone) : KeepsChannels s (changeZone s z d) := by
  unfold changeZone
  extract_lets old t u
  have hu : u.ag = s.ag := by
    show (if _ then _ else _ : State).ag = _
    split <;> rfl
  clear_value u
  split
  · exact (zoneLost_quiet ..).keeps.after hu
  · exact .of_ag hu

theorem latchNoKinds_keeps (s : State) (y z : ZoneId) (f : FaultKind) : KeepsChannels s (latchNoKind (latchNoKind s y f) z f) :=
  (changeZone_keeps ..).trans (changeZone_keeps ..)

theorem storeModule_keeps (s : State) (m : ModuleId) (t : ModuleType) : KeepsChannels s (storeModule s m t) := by
  unfold storeModule
  extract_lets u v
  have ht : u.ag = s.ag := rfl
  split
  · exact .of_ag ht
  · exact .of_ag ht
  · exact (latchNoKinds_keeps ..).after ht

theorem moduleSetOwner_keeps {m t} : OwnerKeeps (moduleSetOwner m t) := by
  intro s
  unfold moduleSetOwner
  repeat' split
  any_goals exact .refuse _
  · exact .ok _ (.refl s)
  · exact .ok _ (storeModule_keeps ..)

/-! ## Operational requests -/

/-- What the rule of a station event makes of `s` keeps the channels: a refusal always does. -/
inductive EventKeeps (s : State) : Except Code EventDone → Prop where
  | error (c : Code) : EventKeeps s (.error c)
  | ok {t : State} {answered : Option CallId} (h : KeepsChannels s t) : EventKeeps s (.ok { state := t, answered := answered })

theorem EventKeeps.of_ok {s : State} {a : Except Code EventDone} {r : EventDone} (h : EventKeeps s a) (e : a = .ok r) :
    KeepsChannels s r.state := by
  subst e; cases h; assumption

/-- A STATION EVENT keeps the channels when the rule of its event does. -/
theorem stationEventOwner_keeps {x e} {act : State → StationId → Except Code EventDone} (ha : ∀ s x, EventKeeps s (act s x)) :
    OwnerKeeps (stationEventOwner x e act) := by
  intro s
  unfold stationEventOwner
  repeat' split
  any_goals exact .refuse _
  rename_i hr
  exact .ok _ ((ha ..).of_ok hr)

theorem offHookAct_keeps (s : State) (x : StationId) : EventKeeps s (offHookAct s x) := by
  unfold offHookAct
  split
  · exact .ok (answerCall_quiet ..).keeps
  · exact .ok (.of_ag rfl)
  · exact .ok (.of_ag rfl)
  · exact .error _

theorem onHookAct_keeps (s : State) (x : StationId) : EventKeeps s (onHookAct s x) := by
  unfold onHookAct
  split
  · exact .ok (freeCall_quiet ..).keeps
  · exact .ok ((enterIdle_quiet ..).trans ((endVoicePage_quiet ..).trans (offer_quiet ..))).keeps
  · exact .error _

theorem serviceOffAct_keeps (s : State) (x : StationId) : EventKeeps s (serviceOffAct s x) := by
  unfold serviceOffAct
  split
  · exact .error _
  · exact .ok ((serviceOffRinging_quiet ..).trans (goOut_quiet ..)).keeps
  · exact .ok ((freeCall_quiet ..).trans (goOut_quiet ..)).keeps
  · exact .ok ((endVoicePage_quiet ..).trans (goOut_quiet ..)).keeps
  · exact .ok (goOut_quiet ..).keeps

theorem serviceOnAct_keeps (s : State) (x : StationId) : EventKeeps s (serviceOnAct s x) := by
  unfold serviceOnAct
  split
  · exact .ok ((enterIdle_quiet ..).trans (offer_quiet ..)).keeps
  · exact .error _

theorem dndOnAct_keeps (s : State) (x : StationId) : EventKeeps s (dndOnAct s x) := .ok (.of_ag rfl)

theorem dndOffAct_keeps (s : State) (x : StationId) : EventKeeps s (dndOffAct s x) := by
  unfold dndOffAct
  split
  · exact .ok ((offer_quiet ..).keeps.after rfl)
  · exact .ok (.refl s)

theorem ringDirect_quiet (s : State) (c : CallId) (x : StationId) : Quiet s (ringDirect s c x) :=
  (ringJoin_quiet ..).trans (Quiet.modCall _ _ _ fun _ => rfl)

theorem callOfferOwner_keeps {k t p r} : OwnerKeeps (callOfferOwner k t p r) := by
  intro s
  unfold callOfferOwner
  repeat' split
  any_goals exact .refuse _
  · exact .ok _ ((arrive_quiet ..).keeps.after (t := takeRecord s _ _ _ _ _) rfl)
  · exact .ok _ ((ringDirect_quiet ..).keeps.after (t := takeRecord s _ _ _ _ _) rfl)

theorem callGoneOwner_keeps {c g} : OwnerKeeps (callGoneOwner c g) := by
  intro s
  unfold callGoneOwner
  repeat' split
  any_goals exact .refuse _
  exact .quiet _ (freeCall_quiet ..)

theorem memberLoginOwner_keeps {x g} : OwnerKeeps (memberLoginOwner x g) := by
  intro s
  unfold memberLoginOwner
  split
  · exact .refuse _
  · refine .quiet _ ?_
    split
    · exact setLogin_quiet ..
    · exact (setLogin_quiet ..).trans (offer_quiet ..)

theorem memberLogoutOwner_keeps {x g} : OwnerKeeps (memberLogoutOwner x g) := by
  intro s
  unfold memberLogoutOwner
  split
  · exact .refuse _
  · exact .quiet _ ((setLogin_quiet ..).trans (logoutRing_quiet ..))

theorem parkOwner_keeps {x o a d e} : OwnerKeeps (parkOwner x o a d e) := by
  intro s
  unfold parkOwner
  repeat' split
  any_goals exact .refuse _
  · exact .quiet _ ((parkCall_quiet ..).trans (announcePark_quiet ..))
  · exact .quiet _ (parkCall_quiet ..)

/-- A PAGE request's attempt changes the state by the start attempt alone. -/
theorem pageAttempt_keeps {s : State} {q : Half} {d e n : Byte} {r : Started} (h : pageAttempt s q d e n = .ok r) :
    KeepsChannels s r.state := by
  unfold pageAttempt at h
  repeat' split at h
  any_goals cases h
  exact (startAttempt_quiet h).keeps

theorem pageOwner_keeps {q d e n} : OwnerKeeps (pageOwner q d e n) := by
  intro s
  unfold pageOwner
  repeat' split
  any_goals exact .refuse _
  rename_i hr
  exact .ok _ (pageAttempt_keeps hr)

theorem pageEndOwner_keeps {p g q} : OwnerKeeps (pageEndOwner p g q) := by
  intro s
  unfold pageEndOwner
  repeat' split
  any_goals exact .refuse _
  exact .quiet _ (endPage_quiet ..)

theorem summonOwner_keeps {q g} : OwnerKeeps (summonOwner q g) := by
  intro s
  unfold summonOwner
  split
  · exact .refuse _
  · exact .quiet _ (summonGroup_quiet ..)

theorem summonHushOwner_keeps {q g} : OwnerKeeps (summonHushOwner q g) := by
  intro s
  unfold summonHushOwner
  split
  · exact .refuse _
  · exact .quiet _ (hushGroup_quiet ..)

theorem zoneRestoreOwner_keeps {z g} : OwnerKeeps (zoneRestoreOwner z g) := by
  intro s
  unfold zoneRestoreOwner
  repeat' split
  any_goals exact .refuse _
  exact .ok _ (((zoneReturned_quiet ..).trans (setPendingRoute_quiet ..)).keeps.after
    (t := zoneNotice (s.modZone _ fun d => { d with fault := none, service := .inService }) _) rfl)

theorem zoneOn_keeps (s : State) (z : ZoneId) : KeepsChannels s (zoneOn s z) := by
  unfold zoneOn
  split
  · exact .of_ag rfl
  · extract_lets t
    have ht : t.ag = s.ag := rfl
    clear_value t
    split
    · exact .of_ag ht
    · exact ((zoneReturned_quiet ..).trans (setPendingRoute_quiet ..)).keeps.after ht

theorem zoneServiceOwner_keeps {z v} : OwnerKeeps (zoneServiceOwner z v) := by
  intro s
  unfold zoneServiceOwner
  dsimp only
  repeat' split
  any_goals exact .refuse _
  · exact .ok _ (zoneOn_keeps ..)
  · exact .ok _ (changeZone_keeps ..)

/-! ## The other requests -/

theorem switchMode_keeps (s : State) (g : GroupId) (m : ServiceState) : KeepsChannels s (switchMode s g m) := by
  unfold switchMode
  split
  · exact .refl s
  · extract_lets t
    have ht : t.ag = s.ag := rfl
    clear_value t
    split
    · exact (switchInService_quiet ..).keeps.after ht
    · exact (switchNight_quiet ..).keeps.after ht
    · exact .of_ag ht
    · exact .of_ag ht

theorem groupModeOwner_keeps {g m} : OwnerKeeps (groupModeOwner g m) := by
  intro s
  unfold groupModeOwner
  repeat' split
  any_goals exact .refuse _
  exact .ok _ (switchMode_keeps ..)

theorem abandonSave_ag (s : State) : (abandonSave s).ag = s.ag := by
  unfold abandonSave
  split <;> rfl

end Sys2Proof.Machine
end

section
/-!
PROOFS. Every step keeps the alert channels in agreement with their claims (O17): the exchanges of the field line, the commands that
are no requests, and every command.
-/

namespace Sys2Proof.Machine

/-! ## The field line's exchanges -/

theorem latchFaults_keeps (s : State) (y z : ZoneId) (f : FaultKind) : KeepsChannels s (latchFault (latchFault s y f) z f) :=
  (changeZone_keeps ..).trans (changeZone_keeps ..)

theorem clearMismatch_ag (s : State) (z : ZoneId) : (clearMismatch s z).ag = s.ag := by
  unfold clearMismatch
  dsimp only
  split <;> rfl

theorem exchangeFailed_keeps (s : State) (m : ModuleId) : KeepsChannels s (exchangeFailed s m) := by
  unfold exchangeFailed
  split
  · exact (latchFaults_keeps ..).after rfl
  · split
    · exact .of_ag ((clearMismatch_ag ..).trans (clearMismatch_ag ..))
    · exact .refl s
  · exact .refl s
  · exact .refl s

theorem endExchange_keeps {s t : State} (m : ModuleId) (x : Exchange) (h : KeepsChannels s t) :
    KeepsChannels s (endExchange t m x) := by
  unfold endExchange
  split
  · exact h.lineArbiter
  · refine .lineArbiter ?_
    exact h.before rfl

theorem attemptFails_keeps (s : State) : KeepsChannels s (attemptFails s) := by
  unfold attemptFails
  split
  · exact .of_ag rfl
  · exact (endExchange_keeps _ _ (exchangeFailed_keeps ..)).finish
  · exact .refl s

theorem announceZone_keeps (old : Zone) (s : State) (z : ZoneId) : KeepsChannels s (announceZone old s z) := by
  unfold announceZone
  dsimp only
  split
  · exact .refl s
  · split
    · exact (zoneReturned_quiet ..).keeps.after rfl
    · exact .of_ag rfl

theorem alertIfBeacon_ag (s : State) (m : ModuleId) : (alertIfBeacon s m).ag = s.ag := by
  unfold alertIfBeacon
  split <;> rfl

theorem moduleIdentified_keeps (s : State) (m : ModuleId) (t : ModuleType) : KeepsChannels s (moduleIdentified s m t) :=
  ((announceZone_keeps ..).trans (announceZone_keeps ..)).after (alertIfBeacon_ag ..)

theorem identifySucceeds_keeps (s : State) (m : ModuleId) (t : ModuleType) (r : Byte) :
    KeepsChannels s (identifySucceeds s m t r) := by
  unfold identifySucceeds
  dsimp only
  split
  · split
    · exact (moduleIdentified_keeps ..).after rfl
    · exact (latchNoKinds_keeps ..).after rfl
  · split
    · exact (moduleIdentified_keeps ..).after rfl
    · split
      · exact .refl s
      · exact .of_ag rfl
  · exact .refl s
  · exact .refl s

theorem takeStatus_keeps (s : State) (z : ZoneId) (c : ChannelStatus) : KeepsChannels s (takeStatus s z c) := by
  cases c with
  | load r => exact .of_ag rfl
  | fault f => exact changeZone_keeps ..

theorem moduleReturns_keeps (s : State) (m : ModuleId) : KeepsChannels s (moduleReturns s m) := by
  unfold moduleReturns
  extract_lets t
  exact ((setPendingRoute_quiet t m).keeps.before (alertIfBeacon_ag ..)).after rfl

theorem pollSucceeds_keeps (s : State) (m : ModuleId) (a b : ChannelStatus) : KeepsChannels s (pollSucceeds s m a b) := by
  unfold pollSucceeds
  split
  · exact (takeStatus_keeps ..).trans (takeStatus_keeps ..)
  · exact (moduleReturns_keeps ..).trans ((takeStatus_keeps ..).trans (takeStatus_keeps ..))
  · exact .refl s
  · exact .refl s

/-! ## Commands -/

/-- The result of a command on `s` keeps the channels. -/
inductive ResultKeeps (s : State) : Result → Prop where
  | next {t : State} (h : KeepsChannels s t) : ResultKeeps s (.next t)

theorem ResultKeeps.of_next {s t : State} {r : Result} (h : ResultKeeps s r) (e : r = .next t) : KeepsChannels s t := by
  subst e; cases h; assumption

/-- An expiry that makes one quiet change when its condition holds, and nothing otherwise. -/
theorem ResultKeeps.when {s t : State} (p : Prop) [Decidable p] (h : Quiet s t) :
    ResultKeeps s (.next (if p then finish t else s)) := by
  refine .next ?_
  split
  · exact h.keeps.finish
  · exact .refl s

/-! ### The Control Link, the store and the starts -/

theorem execFrameSumError_keeps (f : List Byte) (s : State) : ResultKeeps s (execFrameSumError f s) := by
  refine .next ?_
  split
  · exact .refl s
  · exact .finish (.of_ag rfl)
  · exact .finish (.of_ag rfl)

theorem execFrameOverrun_keeps (f : List Byte) (s : State) : ResultKeeps s (execFrameOverrun f s) := by
  refine .next ?_
  split
  · exact .finish (.of_ag rfl)
  · exact .refl s

theorem execFrameGap_keeps (bs : List Byte) (b : Byte) (s : State) : ResultKeeps s (execFrameGap bs b s) := by
  refine .next ?_
  split
  · split
    · exact .of_ag rfl
    · exact .finish (.of_ag rfl)
  · exact .refl s

theorem execFrameLengthError_keeps (k n : Byte) (s : State) : ResultKeeps s (execFrameLengthError k n s) := by
  refine .next ?_
  split
  · exact .finish (.of_ag rfl)
  · exact .refl s

theorem execFramerSilence_keeps (s : State) : ResultKeeps s (execFramerSilence s) := by
  refine .next ?_
  split
  · exact .of_ag rfl
  · exact .refl s

theorem chooseFrame_ag (s : State) : (chooseFrame s).ag = s.ag := by
  rw [chooseFrame_link]; rfl

theorem execTransmitFrameEnd_keeps (s : State) : ResultKeeps s (execTransmitFrameEnd s) := by
  refine .next ?_
  split
  · exact .refl s
  · split
    · exact .of_ag rfl
    · exact .of_ag (chooseFrame_ag s)

theorem execSaveCompletion_keeps (a : Bool) (s : State) : ResultKeeps s (execSaveCompletion a s) := by
  refine .next ?_
  split
  · split
    · refine .finish ?_
      split
      · exact .of_ag rfl
      · exact .of_ag rfl
    · exact .refl s
  · exact .refl s

theorem execStatus_keeps (h : Header) (s : State) : ResultKeeps s (execStatus h s) := by
  have requested : KeepsChannels s (request s 0x20 [0] h statusOwner) := request_keepsChannels fun s => .ok _ (.refl s)
  refine .next ?_
  split
  · exact requested.before rfl
  · exact requested

theorem coldState_keeps (s : State) (cause : StartCause) : KeepsChannels s (coldState s cause) := ⟨fun _ k => by
  have hk : (coldState s cause).channel k = _ := mapTable_get ..
  rw [hk]; exact agrees_stopped ..⟩

theorem execWarmRestart_keeps (s : State) : ResultKeeps s (execWarmRestart s) := by
  refine .next ?_
  split
  · exact ⟨fun _ k => by rw [warmRestart_channel]; exact agrees_stopped ..⟩
  · exact .refl s

/-! ### Expiries -/

theorem execCoverageExpiry_keeps (c : CallId) (s : State) : ResultKeeps s (execCoverageExpiry c s) := by
  refine .next ?_
  split
  · split
    · exact (coverageStep_quiet ..).keeps.finish
    · exact .refl s
  · exact .refl s

theorem execNoAnswerExpiry_keeps (c : CallId) (s : State) : ResultKeeps s (execNoAnswerExpiry c s) := by
  refine .next ?_
  split
  · split
    · exact .refl s
    · exact (noAnswer_quiet ..).keeps.finish
  · exact .refl s

theorem execRingAllExpiry_keeps (c : CallId) (s : State) : ResultKeeps s (execRingAllExpiry c s) := by
  unfold execRingAllExpiry
  split
  · exact .when _ (ringAllNoAnswer_quiet ..)
  · exact .next (.refl s)

theorem execOverflowExpiry_keeps (c : CallId) (s : State) : ResultKeeps s (execOverflowExpiry c s) := by
  unfold execOverflowExpiry
  split
  · exact .when _ (overflowQueued_quiet ..)
  · exact .next (.refl s)

theorem execRecallExpiry_keeps (o : OrbitId) (s : State) : ResultKeeps s (execRecallExpiry o s) := by
  unfold execRecallExpiry
  split
  · exact .when _ (recallExpires_quiet ..)
  · exact .next (.refl s)

theorem execRecallRingExpiry_keeps (c : CallId) (s : State) : ResultKeeps s (execRecallRingExpiry c s) := by
  unfold execRecallRingExpiry
  split
  · exact .when _ (recallRingExpires_quiet ..)
  · exact .next (.refl s)

theorem preludeEnds_quiet (s : State) (p : PageId) (b : BusId) : Quiet s (preludeEnds s p b) :=
  (Quiet.modPage ..).trans ((dropClaim_quiet ..).trans ((takeMainSource_quiet ..).trans (Quiet.modPage ..)))

theorem execPreludeExpiry_keeps (p : PageId) (s : State) : ResultKeeps s (execPreludeExpiry p s) := by
  unfold execPreludeExpiry
  split
  · exact .when _ (preludeEnds_quiet ..)
  · exact .next (.refl s)

/-- The advance acts on a RUNNING channel alone, whose phase and output it sets together (R140). -/
theorem execCadenceAdvance_keeps (k : ChannelId) (s : State) : ResultKeeps s (execCadenceAdvance k s) := by
  refine .next ?_
  split
  · rename_i h
    exact .finish (.changeChannel k fun hc => agrees_advance _ h.1 hc)
  · exact .refl s

/-! ### The field line -/

theorem execIdentifyAnswer_keeps (a k r : Byte) (s : State) : ResultKeeps s (execIdentifyAnswer a k r s) := by
  refine .next ?_
  split
  · split
    · exact (endExchange_keeps _ _ (identifySucceeds_keeps ..)).finish
    · exact attemptFails_keeps s
  · exact attemptFails_keeps s

theorem execRouteAnswer_keeps (a x y : Byte) (s : State) : ResultKeeps s (execRouteAnswer a x y s) := by
  refine .next ?_
  split
  · split
    · refine (endExchange_keeps _ _ ?_).finish
      exact .of_ag rfl
    · exact attemptFails_keeps s
  · exact attemptFails_keeps s

theorem execPollAnswer_keeps (a : Byte) (x y : Half) (s : State) : ResultKeeps s (execPollAnswer a x y s) := by
  refine .next ?_
  split
  · split
    · exact (endExchange_keeps _ _ (pollSucceeds_keeps ..)).finish
    · exact attemptFails_keeps s
  · exact attemptFails_keeps s

theorem execAlertSent_keeps (s : State) : ResultKeeps s (execAlertSent s) := by
  refine .next ?_
  split
  · exact (KeepsChannels.refl s).lineArbiter.finish
  · exact .refl s

theorem execFieldLineRestartHoldoff_keeps (s : State) : ResultKeeps s (execFieldLineRestartHoldoff s) := by
  refine .next ?_
  split
  · exact (KeepsChannels.refl s).lineArbiter.finish
  · exact .refl s

/-! ### Every command -/

theorem ResultKeeps.request {s : State} {kind : Byte} {lengths : List Nat} {h : Header} {owner : State → Answer}
    (ho : OwnerKeeps owner) : ResultKeeps s (.next (request s kind lengths h owner)) := .next (request_keepsChannels ho)

/-- Every command keeps the channels in agreement with their claims. -/
theorem exec_keepsChannels (i : Instr) (s : State) : ResultKeeps s (exec i s) := by
  cases i
  -- The configuration requests: most write a table of another block.
  case groupSet | announceSet | pickupGroupSet | classSet | directorySet | entrySet | pageGroupSet =>
    refine .request fun s => ?_
    simp only [groupSetOwner, announceSetOwner, pickupGroupSetOwner, classSetOwner, directorySetOwner, entrySetOwner,
      pageGroupSetOwner]
    repeat' split
    any_goals exact .refuse _
    all_goals exact .ok _ (.of_ag rfl)
  case stationSet => exact .request stationSetOwner_keeps
  case memberAdd => exact .request memberAddOwner_keeps
  case memberRemove => exact .request memberRemoveOwner_keeps
  case beaconSet => exact .request beaconSetOwner_keeps
  case cadenceSet => exact .request cadenceSetOwner_keeps
  case moduleSet => exact .request moduleSetOwner_keeps
  -- The operational requests.
  case offHook => exact .request (stationEventOwner_keeps offHookAct_keeps)
  case onHook => exact .request (stationEventOwner_keeps onHookAct_keeps)
  case serviceOff => exact .request (stationEventOwner_keeps serviceOffAct_keeps)
  case serviceOn => exact .request (stationEventOwner_keeps serviceOnAct_keeps)
  case dndOn => exact .request (stationEventOwner_keeps dndOnAct_keeps)
  case dndOff => exact .request (stationEventOwner_keeps dndOffAct_keeps)
  case callOffer => exact .request callOfferOwner_keeps
  case callGone => exact .request callGoneOwner_keeps
  case memberLogin => exact .request memberLoginOwner_keeps
  case memberLogout => exact .request memberLogoutOwner_keeps
  case groupPickup | directedPickup | queuePickup | retrieve =>
    refine .request fun s => ?_
    simp only [groupPickupOwner, directedPickupOwner, queuePickupOwner, retrieveOwner]
    repeat' split
    any_goals exact .refuse _
    exact .quiet _ (takeCall_quiet ..)
  case park => exact .request parkOwner_keeps
  case page => exact .request pageOwner_keeps
  case pageEnd => exact .request pageEndOwner_keeps
  case summon => exact .request summonOwner_keeps
  case summonHush => exact .request summonHushOwner_keeps
  case zoneRestore => exact .request zoneRestoreOwner_keeps
  case zoneService => exact .request zoneServiceOwner_keeps
  -- The queries, which leave the Alert Generator as it is, and the requests of the Control Link and the store.
  case stationQuery | callQuery | groupQuery | pickupGroupQuery | orbitQuery | classQuery | directoryQuery | entryQuery |
      pageGroupQuery | pageQuery | busQuery | alertQuery | moduleQuery | zoneQuery =>
    refine .request fun s => ?_
    simp only [stationQueryOwner, callQueryOwner, groupQueryOwner, pickupGroupQueryOwner, orbitQueryOwner, classQueryOwner,
      directoryQueryOwner, entryQueryOwner, pageGroupQueryOwner, pageQueryOwner, busQueryOwner, alertQueryOwner,
      moduleQueryOwner, zoneQueryOwner, partAnswer]
    repeat' split
    any_goals exact .refuse _
    all_goals exact .ok _ (.of_ag rfl)
  case storeQuery => exact .request fun s => .ok _ (.refl s)
  case storeSave | start =>
    refine .request fun s => ?_
    simp only [storeSaveOwner, startOwner]
    split
    · exact .refuse _
    · constructor; exact .of_ag rfl
  case status => exact execStatus_keeps ..
  case groupMode => exact .request groupModeOwner_keeps
  case restart => exact .request fun s => .ok _ (.of_ag (abandonSave_ag _))
  case unknownRequest => exact .request fun _ => .refuse _
  -- The events of the Control Link and the store, and the starts.
  case frameSumError => exact execFrameSumError_keeps ..
  case frameGap => exact execFrameGap_keeps ..
  case frameLengthError => exact execFrameLengthError_keeps ..
  case framerSilence => exact execFramerSilence_keeps s
  case frameOverrun => exact execFrameOverrun_keeps ..
  case transmitFrameEnd => exact execTransmitFrameEnd_keeps s
  case warmRestart => exact execWarmRestart_keeps s
  case powerOn => rw [exec_powerOn]; exact .next (coldState_keeps ..)
  case resetPin => rw [exec_resetPin]; exact .next (coldState_keeps ..)
  case saveCompletion => exact execSaveCompletion_keeps ..
  -- The expiries and the cadence.
  case wrapupExpiry => exact .when _ ((enterIdle_quiet ..).trans (offer_quiet ..))
  case coverageExpiry => exact execCoverageExpiry_keeps ..
  case noAnswerExpiry => exact execNoAnswerExpiry_keeps ..
  case ringAllExpiry => exact execRingAllExpiry_keeps ..
  case recallRingExpiry => exact execRecallRingExpiry_keeps ..
  case overflowExpiry => exact execOverflowExpiry_keeps ..
  case announceDelayExpiry => exact .when _ (triggerAnnouncement_quiet ..)
  case debounceExpiry => exact .when _ (beaconOff_quiet ..)
  case recallExpiry => exact execRecallExpiry_keeps ..
  case waitTimeout => exact .when _ (endPage_quiet ..)
  case endDeadlineExpiry => exact .when _ (endPage_quiet ..)
  case preludeExpiry => exact execPreludeExpiry_keeps ..
  case cadenceAdvance => exact execCadenceAdvance_keeps ..
  -- The field line, and the events that change nothing or the counter alone.
  case identifyAnswer => exact execIdentifyAnswer_keeps ..
  case routeAnswer => exact execRouteAnswer_keeps ..
  case pollAnswer => exact execPollAnswer_keeps ..
  case invalidAnswer | answerTimeout | answerGap => exact .next (attemptFails_keeps s)
  case alertSent => exact execAlertSent_keeps s
  case fieldLineRestartHoldoff => exact execFieldLineRestartHoldoff_keeps s
  case tickCounterAdvance => exact .next (.of_ag rfl)
  case frameDiscardedAtRestart | strayFieldLineBytes => exact .next (.refl s)

/-- Settles O17: every command keeps the invariant, and a step is the command at the front of the queue, or nothing. -/
theorem channelsRunWhileClaimed : Obligations.ChannelsRunWhileClaimed := by
  unfold Obligations.ChannelsRunWhileClaimed
  intro s t hs hstep
  unfold step at hstep
  split at hstep
  · cases hstep; exact hs
  · exact ((exec_keepsChannels _ _).of_next hstep).agree hs

end Sys2Proof.Machine
end

section
/-!
PROOFS. The field line's two invariants, that every zone's service agrees with its latched fault and that the line is never left
free: the rules for a change that keeps both, and what the operations of the field line do to them.
-/

namespace Sys2Proof.Machine

/-! ## Changes that keep the field line's invariants -/

/-- The change from `s` to `t` keeps every zone's service in agreement with its fault, and does not leave the line without
work. -/
structure KeepsField (s t : State) : Prop where
  zones : ZoneServiceFollowsFault s → ZoneServiceFollowsFault t
  line : LineIsUsed s → LineIsUsed t

theorem Quiet.keepsField {s t : State} (h : Quiet s t) : KeepsField s t :=
  ⟨h.zoneAgrees, fun hs => by unfold LineIsUsed; rw [h.line.1]; exact hs⟩

namespace KeepsField

variable {s t u : State}

theorem refl (s : State) : KeepsField s s := ⟨id, id⟩

theorem trans (h : KeepsField s t) (k : KeepsField t u) : KeepsField s u := ⟨k.zones ∘ h.zones, k.line ∘ h.line⟩

/-- A change that leaves the zones and the line alone. -/
theorem of_zones (hz : t.flc.zones = s.flc.zones) (hl : t.flc.line = s.flc.line) : KeepsField s t := by
  refine ⟨fun hs z => ?_, fun hs => by unfold LineIsUsed; rw [hl]; exact hs⟩
  have same : t.zone z = s.zone z := by unfold State.zone; rw [hz]
  rw [same]; exact hs z

/-- A change that leaves the Field Line Controller alone. -/
theorem of_flc (h : t.flc = s.flc) : KeepsField s t := of_zones (congrArg Flc.zones h) (congrArg Flc.line h)

/-- A change that keeps the invariants, after one that leaves the zones and the line alone. -/
theorem after (k : KeepsField t u) (hz : t.flc.zones = s.flc.zones) (hl : t.flc.line = s.flc.line) : KeepsField s u :=
  (of_zones hz hl).trans k

/-- The same, before one that leaves the Field Line Controller alone. -/
theorem before (k : KeepsField s t) (h : u.flc = t.flc) : KeepsField s u := k.trans (of_flc h)

theorem finish (h : KeepsField s t) : KeepsField s (finish t) := h.before (finish_flc t)

/-- The line arbiter leaves the zones and gives the line its next work. -/
theorem lineArbiter (h : KeepsField s t) : KeepsField s (lineArbiter t) where
  zones hs z := by
    have same : (Machine.lineArbiter t).zone z = t.zone z := by unfold State.zone; rw [(lineArbiter_only t).zones]
    rw [same]; exact h.zones hs z
  line _ := lineArbiter_used t

/-- A change of one zone that keeps its service in agreement with its fault. -/
theorem modZone (z : ZoneId) {f : Zone → Zone} (hf : (s.zone z).agrees → (f (s.zone z)).agrees) :
    KeepsField s (s.modZone z f) := by
  refine ⟨fun hs y => ?_, id⟩
  rw [State.modZone_apply]
  split
  · exact hf (hs z)
  · exact hs y

end KeepsField

/-! ## Answers and results -/

/-- An owner's answer to `s` keeps the field line's invariants: a refusal always does. -/
inductive AnswerKeepsField (s : State) : Answer → Prop where
  | refuse (c : Code) : AnswerKeepsField s (.refuse c)
  | ok {t : State} (fields : List Byte) (h : KeepsField s t) : AnswerKeepsField s (.ok t fields)
  | wait {t : State} (h : KeepsField s t) : AnswerKeepsField s (.wait t)

namespace AnswerKeepsField

variable {s t : State} {a : Answer} {f : List Byte}

theorem quiet (fields : List Byte) (h : Quiet s t) : AnswerKeepsField s (.ok t fields) := .ok _ h.keepsField

theorem of_ok (h : AnswerKeepsField s a) (e : a = .ok t f) : KeepsField s t := by
  subst e; cases h; assumption

theorem of_wait (h : AnswerKeepsField s a) (e : a = .wait t) : KeepsField s t := by
  subst e; cases h; assumption

end AnswerKeepsField

/-- An owner answers every state with one that keeps the field line's invariants. -/
def OwnerKeepsField (owner : State → Answer) : Prop := ∀ s, AnswerKeepsField s (owner s)

/-- A request keeps the invariants when its owner's answer does. -/
theorem request_keepsField {s : State} {kind : Byte} {lengths : List Nat} {h : Header} {owner : State → Answer}
    (ho : OwnerKeepsField owner) : KeepsField s (request s kind lengths h owner) := by
  have answers := ho (framerHunt s)
  refine request_keeps (P := KeepsField s) kind lengths h owner (.refl s) (fun _ k => k.before rfl) (fun _ _ k => k.before rfl)
    (fun _ _ _ _ _ k => k.before rfl) (fun _ k => k.finish) (fun _ _ e => ?_) (fun _ e => ?_)
  · exact (answers.of_ok e).after rfl rfl
  · exact (answers.of_wait e).after rfl rfl

/-- The result of a command on `s` keeps the invariants. -/
inductive ResultKeepsField (s : State) : Result → Prop where
  | next {t : State} (h : KeepsField s t) : ResultKeepsField s (.next t)

theorem ResultKeepsField.of_next {s t : State} {r : Result} (h : ResultKeepsField s r) (e : r = .next t) : KeepsField s t := by
  subst e; cases h; assumption

theorem ResultKeepsField.request {s : State} {kind : Byte} {lengths : List Nat} {h : Header} {owner : State → Answer}
    (ho : OwnerKeepsField owner) : ResultKeepsField s (.next (request s kind lengths h owner)) := .next (request_keepsField ho)

/-- An expiry that makes one quiet change when its condition holds, and nothing otherwise. -/
theorem ResultKeepsField.when {s t : State} (p : Prop) [Decidable p] (h : Quiet s t) :
    ResultKeepsField s (.next (if p then finish t else s)) := by
  refine .next ?_
  split
  · exact h.keepsField.finish
  · exact .refl s

/-! ## Zones -/

/-- A zone's change passes through the zone's record, the notice and the loss: the line stands. -/
theorem changeZone_line (s : State) (z : ZoneId) (d : Zone) : (changeZone s z d).flc.line = s.flc.line := by
  unfold changeZone
  extract_lets old t u
  have hu : u.flc.line = s.flc.line := by
    show (if _ then _ else _ : State).flc.line = _
    split <;> rfl
  split
  · exact (zoneLost_quiet u z).line.1.trans hu
  · exact hu

theorem changeZone_keepsField {s : State} {z : ZoneId} {d : Zone} (hd : d.agrees) : KeepsField s (changeZone s z d) :=
  ⟨changeZone_agrees hd, fun hs => by unfold LineIsUsed; rw [changeZone_line]; exact hs⟩

theorem latchFault_keepsField (s : State) (z : ZoneId) (f : FaultKind) : KeepsField s (latchFault s z f) :=
  changeZone_keepsField (Zone.agrees_latch _ f)

theorem latchNoKind_keepsField (s : State) (z : ZoneId) (f : FaultKind) : KeepsField s (latchNoKind s z f) :=
  changeZone_keepsField (d := { (s.zone z).latch f with kind := .none }) (Zone.agrees_latch _ f)

/-- A zone without a fault agrees unless it is FAULTED. -/
theorem Zone.agrees_healthy {d : Zone} (hf : d.fault = none) (hs : d.service ≠ .faulted) : d.agrees :=
  ⟨fun _ => hf, fun h => absurd h hs⟩

theorem clearMismatch_keepsField (s : State) (z : ZoneId) : KeepsField s (clearMismatch s z) := by
  unfold clearMismatch
  dsimp only
  split
  · refine KeepsField.before (.modZone z fun _ => Zone.agrees_healthy rfl ?_) rfl
    dsimp only
    split <;> simp
  · exact .refl s

/-- A zone that comes back IN SERVICE without a fault, with what its return makes of the pages and the routes. -/
theorem returned_keepsField {s t : State} (h : KeepsField s t) (z : ZoneId) :
    KeepsField s (setPendingRoute (zoneReturned t z) (moduleOf z)) :=
  h.trans ((zoneReturned_quiet ..).trans (setPendingRoute_quiet ..)).keepsField

theorem zoneOff_keepsField (s : State) (z : ZoneId) : KeepsField s (zoneOff s z) :=
  changeZone_keepsField (by simp [Zone.agrees])

theorem zoneOn_keepsField (s : State) (z : ZoneId) : KeepsField s (zoneOn s z) := by
  unfold zoneOn
  split
  · rename_i hf
    exact KeepsField.before (.modZone z fun _ => ⟨by simp, fun _ => Option.isSome_iff_ne_none.mp hf⟩) rfl
  · rename_i hf
    have served : KeepsField s (zoneNotice (s.modZone z fun d => { d with service := .inService }) z) :=
      KeepsField.before (.modZone z fun _ => Zone.agrees_healthy (by simpa using hf) (by simp)) rfl
    split
    · exact served
    · exact returned_keepsField served z

/-! ## The outcomes of an exchange -/

theorem endExchange_keepsField {s t : State} (m : ModuleId) (x : Exchange) (h : KeepsField s t) :
    KeepsField s (endExchange t m x) := by
  unfold endExchange
  split
  · exact h.lineArbiter
  · exact KeepsField.lineArbiter (h.trans (.of_zones rfl rfl))

theorem exchangeFailed_keepsField (s : State) (m : ModuleId) : KeepsField s (exchangeFailed s m) := by
  unfold exchangeFailed
  split
  · exact ((latchFault_keepsField ..).trans (latchFault_keepsField ..)).after rfl rfl
  · split
    · exact ((clearMismatch_keepsField ..).trans (clearMismatch_keepsField ..)).after rfl rfl
    · exact .refl s
  · exact .refl s
  · exact .refl s

theorem attemptFails_keepsField (s : State) : KeepsField s (attemptFails s) := by
  unfold attemptFails
  split
  · exact ⟨id, fun _ => by simp [LineIsUsed]⟩
  · exact (endExchange_keepsField _ _ (exchangeFailed_keepsField ..)).finish
  · exact .refl s

theorem announceZone_keepsField (old : Zone) (s : State) (z : ZoneId) : KeepsField s (announceZone old s z) := by
  unfold announceZone
  dsimp only
  split
  · exact .refl s
  · split
    · exact (zoneReturned_quiet ..).keepsField.after rfl rfl
    · exact .of_flc rfl

theorem alertIfBeacon_quiet (s : State) (m : ModuleId) : Quiet s (alertIfBeacon s m) := by
  unfold alertIfBeacon
  split
  · exact setAlert_quiet s
  · exact .rfl' s

theorem moduleIdentified_keepsField (s : State) (m : ModuleId) (t : ModuleType) : KeepsField s (moduleIdentified s m t) := by
  unfold moduleIdentified
  extract_lets oldA oldB s1 s2 s3 s4
  have present : KeepsField s s1 := .of_zones rfl rfl
  have kindA : KeepsField s1 s2 := .modZone _ (Zone.agrees_identified _)
  have kindB : KeepsField s2 s3 := .modZone _ (Zone.agrees_identified _)
  have noticed : KeepsField s3 s4 := (alertIfBeacon_quiet s3 m).keepsField.before rfl
  exact present.trans (kindA.trans (kindB.trans (noticed.trans
    ((announceZone_keepsField ..).trans (announceZone_keepsField ..)))))

theorem identifySucceeds_keepsField (s : State) (m : ModuleId) (t : ModuleType) (r : Byte) :
    KeepsField s (identifySucceeds s m t r) := by
  unfold identifySucceeds
  dsimp only
  split
  · split
    · exact (moduleIdentified_keepsField ..).after rfl rfl
    · exact ((latchNoKind_keepsField ..).trans (latchNoKind_keepsField ..)).after rfl rfl
  · split
    · exact (moduleIdentified_keepsField ..).after rfl rfl
    · split
      · exact .refl s
      · exact .of_zones rfl rfl
  · exact .refl s
  · exact .refl s

theorem takeStatus_keepsField (s : State) (z : ZoneId) (c : ChannelStatus) : KeepsField s (takeStatus s z c) := by
  cases c with
  | load r => exact .modZone z id
  | fault f => exact latchFault_keepsField ..

theorem moduleReturns_keepsField (s : State) (m : ModuleId) : KeepsField s (moduleReturns s m) :=
  ((setPendingRoute_quiet _ m).trans (alertIfBeacon_quiet _ m)).keepsField.after rfl rfl

theorem pollSucceeds_keepsField (s : State) (m : ModuleId) (a b : ChannelStatus) : KeepsField s (pollSucceeds s m a b) := by
  unfold pollSucceeds
  split
  · exact (takeStatus_keepsField ..).trans (takeStatus_keepsField ..)
  · exact (moduleReturns_keepsField ..).trans ((takeStatus_keepsField ..).trans (takeStatus_keepsField ..))
  · exact .refl s
  · exact .refl s

theorem storeModule_keepsField (s : State) (m : ModuleId) (t : ModuleType) : KeepsField s (storeModule s m t) := by
  unfold storeModule
  dsimp only
  split
  · exact .of_zones rfl rfl
  · exact .of_zones rfl rfl
  · exact ((latchNoKind_keepsField ..).trans (latchNoKind_keepsField ..)).after rfl rfl

end Sys2Proof.Machine
end

section
/-!
PROOFS. Every step keeps the field line's two invariants (O15, O16): the owners of the requests, the other commands, and every
command.
-/

namespace Sys2Proof.Machine

/-! ## Configuration requests -/

theorem stationSetOwner_keepsField {x c p v k l} : OwnerKeepsField (stationSetOwner x c p v k l) := by
  intro s
  unfold stationSetOwner
  repeat' split
  any_goals exact .refuse _
  exact .ok _ ((moveRing_quiet ..).keepsField.after (s := s) rfl rfl)

theorem memberAddOwner_keepsField {g x w i j} : OwnerKeepsField (memberAddOwner g x w i j) := by
  intro s
  have added (g x w pos pref) : KeepsField s (addMember s g x w pos pref) := .of_flc rfl
  unfold memberAddOwner
  repeat' split
  any_goals exact .refuse _
  · exact .ok _ ((added ..).trans (offer_quiet ..).keepsField)
  · exact .ok _ (added ..)

theorem removeMember_keepsField (s : State) (g : GroupId) (x : StationId) : KeepsField s (removeMember s g x) := by
  have dropped (t : State) : KeepsField t (dropMember t g x) := .of_flc rfl
  unfold removeMember
  split
  · exact (ringLeave_quiet ..).keepsField.trans ((dropped _).trans
      ((leaveWithoutTried_quiet ..).trans (offer_quiet ..)).keepsField)
  · exact (dropped s).trans (offer_quiet ..).keepsField

theorem memberRemoveOwner_keepsField {g x} : OwnerKeepsField (memberRemoveOwner g x) := by
  intro s
  unfold memberRemoveOwner
  repeat' split
  any_goals exact .refuse _
  exact .ok _ (removeMember_keepsField ..)

/-- The stored parameters are no part of the field line, and the rest of a BEACON SET is quiet (R74). -/
theorem storeBeacon_keepsField (s : State) (g : GroupId) (p : BeaconParams) : KeepsField s (storeBeacon s g p) := by
  unfold storeBeacon
  extract_lets old t
  have stored : KeepsField s t := .of_flc rfl
  clear_value t
  refine stored.trans (Quiet.keepsField ?_)
  split
  · split
    · split
      · exact beaconOn_quiet ..
      · exact .rfl' t
    · exact .rfl' t
  · split
    · exact (modBeacon_quiet ..).trans ((dropClaim_quiet ..).trans (refollowOpt_quiet ..))
    · have moved : Quiet t (if p.channel = old.channel then t
          else dropClaim (placeClaim t p.channel .group) old.channel .group) := by
        split
        · exact .rfl' t
        · exact (placeClaim_quiet ..).trans (dropClaim_quiet ..)
      exact moved.trans (refollowPair_quiet ..)

theorem beaconSetOwner_keepsField {g z k d} : OwnerKeepsField (beaconSetOwner g z k d) := by
  intro s
  unfold beaconSetOwner
  repeat' split
  any_goals exact .refuse _
  exact .ok _ (storeBeacon_keepsField ..)

/-- A channel's change hands at most its output on, as the pending broadcast. -/
theorem changeChannel_keepsField (s : State) (k : ChannelId) (f : Channel → Channel) : KeepsField s (changeChannel s k f) := by
  have h := changeChannel_flc s k f
  split at h
  · exact .of_flc h
  · exact .of_zones (by rw [h]) (by rw [h])

theorem cadenceSetOwner_keepsField {k v p n} : OwnerKeepsField (cadenceSetOwner k v p n) := by
  intro s
  unfold cadenceSetOwner
  repeat' split
  any_goals exact .refuse _
  exact .ok _ (changeChannel_keepsField ..)

theorem moduleSetOwner_keepsField {m t} : OwnerKeepsField (moduleSetOwner m t) := by
  intro s
  unfold moduleSetOwner
  repeat' split
  any_goals exact .refuse _
  · exact .ok _ (.refl s)
  · exact .ok _ (storeModule_keepsField ..)

/-! ## Operational requests -/

/-- A STATION EVENT keeps the invariants when the rule of its event does. -/
theorem stationEventOwner_keepsField {x e} {act : State → StationId → Except Code EventDone}
    (ha : ∀ s x r, act s x = .ok r → KeepsField s r.state) : OwnerKeepsField (stationEventOwner x e act) := by
  intro s
  unfold stationEventOwner
  repeat' split
  any_goals exact .refuse _
  rename_i hr
  exact .ok _ (ha _ _ _ hr)

/-- What an event's rule leaves keeps the invariants when the state it names does. -/
theorem KeepsField.of_done {s t : State} {c : Option CallId} {r : EventDone}
    (h : Except.ok (ε := Code) { state := t, answered := c } = .ok r) (k : KeepsField s t) : KeepsField s r.state := by
  rw [← Except.ok.inj h]; exact k

theorem offHookAct_keepsField (s : State) (x : StationId) (r : EventDone) (h : offHookAct s x = .ok r) :
    KeepsField s r.state := by
  unfold offHookAct at h
  split at h
  · exact .of_done h (answerCall_quiet ..).keepsField
  · exact .of_done h (.of_flc (State.modStation_flc ..))
  · exact .of_done h (.of_flc (State.modStation_flc ..))
  · contradiction

theorem onHookAct_keepsField (s : State) (x : StationId) (r : EventDone) (h : onHookAct s x = .ok r) :
    KeepsField s r.state := by
  unfold onHookAct at h
  split at h
  · exact .of_done h (freeCall_quiet ..).keepsField
  · exact .of_done h ((enterIdle_quiet ..).trans ((endVoicePage_quiet ..).trans (offer_quiet ..))).keepsField
  · contradiction

theorem serviceOffAct_keepsField (s : State) (x : StationId) (r : EventDone) (h : serviceOffAct s x = .ok r) :
    KeepsField s r.state := by
  unfold serviceOffAct at h
  split at h
  · contradiction
  · exact .of_done h ((serviceOffRinging_quiet ..).trans (goOut_quiet ..)).keepsField
  · exact .of_done h ((freeCall_quiet ..).trans (goOut_quiet ..)).keepsField
  · exact .of_done h ((endVoicePage_quiet ..).trans (goOut_quiet ..)).keepsField
  · exact .of_done h (goOut_quiet ..).keepsField

theorem serviceOnAct_keepsField (s : State) (x : StationId) (r : EventDone) (h : serviceOnAct s x = .ok r) :
    KeepsField s r.state := by
  unfold serviceOnAct at h
  split at h
  · exact .of_done h ((enterIdle_quiet ..).trans (offer_quiet ..)).keepsField
  · contradiction

theorem dndOnAct_keepsField (s : State) (x : StationId) (r : EventDone) (h : dndOnAct s x = .ok r) :
    KeepsField s r.state := .of_done h (.of_flc rfl)

theorem dndOffAct_keepsField (s : State) (x : StationId) (r : EventDone) (h : dndOffAct s x = .ok r) :
    KeepsField s r.state := by
  unfold dndOffAct at h
  split at h
  · exact .of_done h ((offer_quiet ..).keepsField.after rfl rfl)
  · exact .of_done h (.refl s)

theorem callOfferOwner_keepsField {k t p r} : OwnerKeepsField (callOfferOwner k t p r) := by
  intro s
  have taken (c k g p r) : KeepsField s (takeRecord s c k g p r) := .of_flc rfl
  unfold callOfferOwner
  repeat' split
  any_goals exact .refuse _
  · exact .ok _ ((taken ..).trans (arrive_quiet ..).keepsField)
  · exact .ok _ ((taken ..).trans (ringDirect_quiet ..).keepsField)

theorem memberLoginOwner_keepsField {x g} : OwnerKeepsField (memberLoginOwner x g) := by
  intro s
  unfold memberLoginOwner
  split
  · exact .refuse _
  · refine .quiet _ ?_
    split
    · exact setLogin_quiet ..
    · exact (setLogin_quiet ..).trans (offer_quiet ..)

theorem parkOwner_keepsField {x o a d e} : OwnerKeepsField (parkOwner x o a d e) := by
  intro s
  unfold parkOwner
  repeat' split
  any_goals exact .refuse _
  · exact .quiet _ ((parkCall_quiet ..).trans (announcePark_quiet ..))
  · exact .quiet _ (parkCall_quiet ..)

theorem pageAttempt_quiet {s : State} {q : Half} {d e n : Byte} {r : Started} (h : pageAttempt s q d e n = .ok r) :
    Quiet s r.state := by
  unfold pageAttempt at h
  repeat' split at h
  any_goals cases h
  exact startAttempt_quiet h

theorem pageOwner_keepsField {q d e n} : OwnerKeepsField (pageOwner q d e n) := by
  intro s
  unfold pageOwner
  repeat' split
  any_goals exact .refuse _
  rename_i hr
  exact .quiet _ (pageAttempt_quiet hr)

theorem zoneRestoreOwner_keepsField {z g} : OwnerKeepsField (zoneRestoreOwner z g) := by
  intro s
  unfold zoneRestoreOwner
  repeat' split
  any_goals exact .refuse _
  rename_i z _ _ _ _
  have restored : KeepsField s (s.modZone z fun d => { d with fault := none, service := .inService }) :=
    .modZone z fun _ => Zone.agrees_healthy rfl (by simp)
  exact .ok _ (returned_keepsField (restored.before (u := zoneNotice (s.modZone z _) z) rfl) z)

theorem zoneServiceOwner_keepsField {z v} : OwnerKeepsField (zoneServiceOwner z v) := by
  intro s
  unfold zoneServiceOwner
  dsimp only
  repeat' split
  any_goals exact .refuse _
  · exact .ok _ (zoneOn_keepsField ..)
  · exact .ok _ (zoneOff_keepsField ..)

theorem groupModeOwner_keepsField {g m} : OwnerKeepsField (groupModeOwner g m) := by
  intro s
  have moded (g m) : KeepsField s (switchMode s g m) := by
    unfold switchMode
    extract_lets t
    have ht : KeepsField s t := .of_flc rfl
    clear_value t
    split
    · exact .refl s
    · split
      · exact ht.trans (switchInService_quiet ..).keepsField
      · exact ht.trans (switchNight_quiet ..).keepsField
      · exact ht
      · exact ht
  unfold groupModeOwner
  repeat' split
  any_goals exact .refuse _
  exact .ok _ (moded ..)

theorem abandonSave_flc (s : State) : (abandonSave s).flc = s.flc := by
  unfold abandonSave
  split <;> rfl

/-! ## The other commands -/

/-- The Control Link's own events leave the Field Line Controller alone. -/
theorem ResultKeepsField.of_flc {s t : State} (h : t.flc = s.flc) : ResultKeepsField s (.next t) := .next (.of_flc h)

theorem execFrameSumError_keepsField (f : List Byte) (s : State) : ResultKeepsField s (execFrameSumError f s) := by
  refine .of_flc ?_
  split
  · rfl
  · exact finish_flc _
  · exact finish_flc _

theorem execFrameOverrun_keepsField (f : List Byte) (s : State) : ResultKeepsField s (execFrameOverrun f s) := by
  refine .of_flc ?_
  split
  · exact finish_flc _
  · rfl

theorem execFrameGap_keepsField (bs : List Byte) (b : Byte) (s : State) : ResultKeepsField s (execFrameGap bs b s) := by
  refine .of_flc ?_
  split
  · split
    · rfl
    · exact finish_flc _
  · rfl

theorem execFrameLengthError_keepsField (k n : Byte) (s : State) : ResultKeepsField s (execFrameLengthError k n s) := by
  refine .of_flc ?_
  split
  · exact finish_flc _
  · rfl

theorem execFramerSilence_keepsField (s : State) : ResultKeepsField s (execFramerSilence s) := by
  refine .of_flc ?_
  split <;> rfl

theorem execTransmitFrameEnd_keepsField (s : State) : ResultKeepsField s (execTransmitFrameEnd s) := by
  refine .of_flc ?_
  split
  · rfl
  · split
    · rfl
    · rw [chooseFrame_link]; rfl

theorem execSaveCompletion_keepsField (a : Bool) (s : State) : ResultKeepsField s (execSaveCompletion a s) := by
  refine .of_flc ?_
  split
  · split
    · rw [finish_flc]; split <;> rfl
    · rfl
  · rfl

theorem execStatus_keepsField (h : Header) (s : State) : ResultKeepsField s (execStatus h s) := by
  have requested : KeepsField s (request s 0x20 [0] h statusOwner) := request_keepsField fun s => .ok _ (.refl s)
  refine .next ?_
  split
  · exact requested.before rfl
  · exact requested

/-- After a cold reset every zone is IN SERVICE without a fault, and the first IDENTIFY is on the line. -/
theorem coldState_keepsField (s : State) (cause : StartCause) : KeepsField s (coldState s cause) := by
  refine ⟨fun _ z => ?_, fun _ h => nomatch h⟩
  have hz : (coldState s cause).zone z = Zone.reset := Vector.getElem_replicate ..
  rw [hz]
  exact Zone.agrees_healthy rfl (by simp [Zone.reset])

/-- A warm restart keeps the zones' health, and the line waits. -/
theorem execWarmRestart_keepsField (s : State) : ResultKeepsField s (execWarmRestart s) := by
  refine .next ?_
  split
  · refine ⟨fun hs z => ?_, fun _ => ?_⟩
    · rw [warmRestart_zone]; exact hs z
    · simp [LineIsUsed, warmRestart]
  · exact .refl s

theorem execCoverageExpiry_keepsField (c : CallId) (s : State) : ResultKeepsField s (execCoverageExpiry c s) := by
  refine .next ?_
  split
  · split
    · exact (coverageStep_quiet ..).keepsField.finish
    · exact .refl s
  · exact .refl s

theorem execNoAnswerExpiry_keepsField (c : CallId) (s : State) : ResultKeepsField s (execNoAnswerExpiry c s) := by
  refine .next ?_
  split
  · split
    · exact .refl s
    · exact (noAnswer_quiet ..).keepsField.finish
  · exact .refl s

theorem execRingAllExpiry_keepsField (c : CallId) (s : State) : ResultKeepsField s (execRingAllExpiry c s) := by
  unfold execRingAllExpiry
  split
  · exact .when _ (ringAllNoAnswer_quiet ..)
  · exact .of_flc rfl

theorem execOverflowExpiry_keepsField (c : CallId) (s : State) : ResultKeepsField s (execOverflowExpiry c s) := by
  unfold execOverflowExpiry
  split
  · exact .when _ (overflowQueued_quiet ..)
  · exact .of_flc rfl

theorem execRecallExpiry_keepsField (o : OrbitId) (s : State) : ResultKeepsField s (execRecallExpiry o s) := by
  unfold execRecallExpiry
  split
  · exact .when _ (recallExpires_quiet ..)
  · exact .of_flc rfl

theorem execRecallRingExpiry_keepsField (c : CallId) (s : State) : ResultKeepsField s (execRecallRingExpiry c s) := by
  unfold execRecallRingExpiry
  split
  · exact .when _ (recallRingExpires_quiet ..)
  · exact .of_flc rfl

theorem execPreludeExpiry_keepsField (p : PageId) (s : State) : ResultKeepsField s (execPreludeExpiry p s) := by
  unfold execPreludeExpiry
  split
  · exact .when _ (preludeEnds_quiet ..)
  · exact .of_flc rfl

theorem execCadenceAdvance_keepsField (k : ChannelId) (s : State) : ResultKeepsField s (execCadenceAdvance k s) := by
  refine .next ?_
  split
  · exact (changeChannel_keepsField ..).finish
  · exact .refl s

theorem execIdentifyAnswer_keepsField (a k r : Byte) (s : State) : ResultKeepsField s (execIdentifyAnswer a k r s) := by
  refine .next ?_
  split
  · split
    · exact (endExchange_keepsField _ _ (identifySucceeds_keepsField ..)).finish
    · exact attemptFails_keepsField s
  · exact attemptFails_keepsField s

theorem execRouteAnswer_keepsField (a x y : Byte) (s : State) : ResultKeepsField s (execRouteAnswer a x y s) := by
  refine .next ?_
  split
  · split
    · refine (endExchange_keepsField _ _ ?_).finish
      exact .of_zones rfl rfl
    · exact attemptFails_keepsField s
  · exact attemptFails_keepsField s

theorem execPollAnswer_keepsField (a : Byte) (x y : Half) (s : State) : ResultKeepsField s (execPollAnswer a x y s) := by
  refine .next ?_
  split
  · split
    · exact (endExchange_keepsField _ _ (pollSucceeds_keepsField ..)).finish
    · exact attemptFails_keepsField s
  · exact attemptFails_keepsField s

theorem execAlertSent_keepsField (s : State) : ResultKeepsField s (execAlertSent s) := by
  refine .next ?_
  split
  · exact (KeepsField.refl s).lineArbiter.finish
  · exact .refl s

theorem execFieldLineRestartHoldoff_keepsField (s : State) : ResultKeepsField s (execFieldLineRestartHoldoff s) := by
  refine .next ?_
  split
  · exact (KeepsField.refl s).lineArbiter.finish
  · exact .refl s

/-! ## Every command -/

/-- Every command keeps the field line's invariants. -/
theorem exec_keepsField (i : Instr) (s : State) : ResultKeepsField s (exec i s) := by
  cases i
  -- The requests that leave the Field Line Controller alone: tables of other blocks, queries, the run mode and the store.
  case groupSet | announceSet | pickupGroupSet | classSet | directorySet | entrySet | pageGroupSet | stationQuery | callQuery |
      groupQuery | pickupGroupQuery | orbitQuery | classQuery | directoryQuery | entryQuery | pageGroupQuery | pageQuery |
      busQuery | alertQuery | moduleQuery | zoneQuery | storeSave | start =>
    refine .request fun s => ?_
    simp only [groupSetOwner, announceSetOwner, pickupGroupSetOwner, classSetOwner, directorySetOwner, entrySetOwner,
      pageGroupSetOwner, stationQueryOwner, callQueryOwner, groupQueryOwner, pickupGroupQueryOwner, orbitQueryOwner,
      classQueryOwner, directoryQueryOwner, entryQueryOwner, pageGroupQueryOwner, pageQueryOwner, busQueryOwner,
      alertQueryOwner, moduleQueryOwner, zoneQueryOwner, partAnswer, storeSaveOwner, startOwner]
    repeat' split
    any_goals exact .refuse _
    all_goals constructor; exact .of_flc rfl
  case storeQuery => exact .request fun s => .ok _ (.refl s)
  case status => exact execStatus_keepsField ..
  case restart => exact .request fun s => .ok _ (.of_flc (abandonSave_flc _))
  case unknownRequest => exact .request fun _ => .refuse _
  -- The other configuration requests.
  case stationSet => exact .request stationSetOwner_keepsField
  case memberAdd => exact .request memberAddOwner_keepsField
  case memberRemove => exact .request memberRemoveOwner_keepsField
  case beaconSet => exact .request beaconSetOwner_keepsField
  case cadenceSet => exact .request cadenceSetOwner_keepsField
  case moduleSet => exact .request moduleSetOwner_keepsField
  case groupMode => exact .request groupModeOwner_keepsField
  -- The operational requests.
  case offHook => exact .request (stationEventOwner_keepsField offHookAct_keepsField)
  case onHook => exact .request (stationEventOwner_keepsField onHookAct_keepsField)
  case serviceOff => exact .request (stationEventOwner_keepsField serviceOffAct_keepsField)
  case serviceOn => exact .request (stationEventOwner_keepsField serviceOnAct_keepsField)
  case dndOn => exact .request (stationEventOwner_keepsField dndOnAct_keepsField)
  case dndOff => exact .request (stationEventOwner_keepsField dndOffAct_keepsField)
  case callOffer => exact .request callOfferOwner_keepsField
  case callGone =>
    refine .request fun s => ?_
    unfold callGoneOwner
    repeat' split
    any_goals exact .refuse _
    exact .quiet _ (freeCall_quiet ..)
  case memberLogin => exact .request memberLoginOwner_keepsField
  case memberLogout =>
    refine .request fun s => ?_
    unfold memberLogoutOwner
    split
    · exact .refuse _
    · exact .quiet _ ((setLogin_quiet ..).trans (logoutRing_quiet ..))
  case groupPickup | directedPickup | queuePickup | retrieve =>
    refine .request fun s => ?_
    simp only [groupPickupOwner, directedPickupOwner, queuePickupOwner, retrieveOwner]
    repeat' split
    any_goals exact .refuse _
    exact .quiet _ (takeCall_quiet ..)
  case park => exact .request parkOwner_keepsField
  case page => exact .request pageOwner_keepsField
  case pageEnd =>
    refine .request fun s => ?_
    unfold pageEndOwner
    repeat' split
    any_goals exact .refuse _
    exact .quiet _ (endPage_quiet ..)
  case summon =>
    refine .request fun s => ?_
    unfold summonOwner
    split
    · exact .refuse _
    · exact .quiet _ (summonGroup_quiet ..)
  case summonHush =>
    refine .request fun s => ?_
    unfold summonHushOwner
    split
    · exact .refuse _
    · exact .quiet _ (hushGroup_quiet ..)
  case zoneRestore => exact .request zoneRestoreOwner_keepsField
  case zoneService => exact .request zoneServiceOwner_keepsField
  -- The events of the Control Link and the store, and the starts.
  case frameSumError => exact execFrameSumError_keepsField ..
  case frameGap => exact execFrameGap_keepsField ..
  case frameLengthError => exact execFrameLengthError_keepsField ..
  case framerSilence => exact execFramerSilence_keepsField s
  case frameOverrun => exact execFrameOverrun_keepsField ..
  case transmitFrameEnd => exact execTransmitFrameEnd_keepsField s
  case warmRestart => exact execWarmRestart_keepsField s
  case powerOn => rw [exec_powerOn]; exact .next (coldState_keepsField ..)
  case resetPin => rw [exec_resetPin]; exact .next (coldState_keepsField ..)
  case saveCompletion => exact execSaveCompletion_keepsField ..
  -- The expiries and the cadence.
  case wrapupExpiry => exact .when _ ((enterIdle_quiet ..).trans (offer_quiet ..))
  case coverageExpiry => exact execCoverageExpiry_keepsField ..
  case noAnswerExpiry => exact execNoAnswerExpiry_keepsField ..
  case ringAllExpiry => exact execRingAllExpiry_keepsField ..
  case recallRingExpiry => exact execRecallRingExpiry_keepsField ..
  case overflowExpiry => exact execOverflowExpiry_keepsField ..
  case announceDelayExpiry => exact .when _ (triggerAnnouncement_quiet ..)
  case debounceExpiry => exact .when _ (beaconOff_quiet ..)
  case recallExpiry => exact execRecallExpiry_keepsField ..
  case waitTimeout => exact .when _ (endPage_quiet ..)
  case endDeadlineExpiry => exact .when _ (endPage_quiet ..)
  case preludeExpiry => exact execPreludeExpiry_keepsField ..
  case cadenceAdvance => exact execCadenceAdvance_keepsField ..
  -- The field line, and the events that change nothing or the counter alone.
  case identifyAnswer => exact execIdentifyAnswer_keepsField ..
  case routeAnswer => exact execRouteAnswer_keepsField ..
  case pollAnswer => exact execPollAnswer_keepsField ..
  case invalidAnswer | answerTimeout | answerGap => exact .next (attemptFails_keepsField s)
  case alertSent => exact execAlertSent_keepsField s
  case fieldLineRestartHoldoff => exact execFieldLineRestartHoldoff_keepsField s
  case tickCounterAdvance => exact .of_flc rfl
  case frameDiscardedAtRestart | strayFieldLineBytes => exact .of_flc rfl

/-- A step is the command at the front of the queue, or nothing. -/
theorem step_keepsField {s t : State} (h : step s = .next t) : KeepsField s t := by
  unfold step at h
  split at h
  · cases h; exact .refl s
  · exact ((exec_keepsField _ _).of_next h).after rfl rfl

/-- Settles O15: every command keeps the agreement of service and fault. -/
theorem zoneServiceAgreesWithItsFault : Obligations.ZoneServiceAgreesWithItsFault := by
  unfold Obligations.ZoneServiceAgreesWithItsFault
  intro s t hs h
  exact (step_keepsField h).zones hs

/-- Settles O16: no command frees the line, since the line arbiter always finds it work. -/
theorem fieldLineIsNeverLeftFree : Obligations.FieldLineIsNeverLeftFree := by
  unfold Obligations.FieldLineIsNeverLeftFree
  intro s t hs h
  exact (step_keepsField h).line hs

end Sys2Proof.Machine
end

section
/-!
PROOFS. What the changes of zones leave: of a module only the pending route of a PRESENT one can change, of another zone
nothing of its health. With it the latching of a fault (O56).
-/

namespace Sys2Proof.Machine

/-! ## What pages, losses and returns leave of the modules -/

/-- The record of a module without what a zone's change may touch: the pending route, when the module is PRESENT (R156). -/
def FieldModule.settled (d : FieldModule) : FieldModule :=
  { d with pendingRoute := if d.state = .present then none else d.pendingRoute }

/-- Records that are settled alike agree in every field but the pending route. -/
theorem FieldModule.of_settled {α : Type} (f : FieldModule → α) (hf : ∀ d r, f { d with pendingRoute := r } = f d)
    {d e : FieldModule} (h : d.settled = e.settled) : f d = f e := by
  have hd : f d.settled = f d := hf d _
  have he : f e.settled = f e := hf e _
  rw [← hd, h, he]

/-- Records that are settled alike are one record, unless the module is PRESENT. -/
theorem FieldModule.eq_of_settled {d e : FieldModule} (h : d.settled = e.settled) (he : e.state ≠ .present) : d = e := by
  have hs : d.state = e.state := of_settled FieldModule.state (fun _ _ => rfl) h
  have hd : d.state ≠ .present := hs ▸ he
  unfold settled at h
  rwa [if_neg hd, if_neg he] at h

/-- The modules, each without the pending route of a PRESENT one. -/
def settledModules (s : State) : Vector FieldModule 24 := mapTable FieldModule.settled s.flc.modules

theorem settledModules_of_modules {s t : State} (h : t.flc.modules = s.flc.modules) : settledModules t = settledModules s :=
  congrArg (mapTable FieldModule.settled) h

/-- The view holds of each module. -/
theorem settledModules_get {s t : State} (h : settledModules t = settledModules s) (m : ModuleId) :
    (t.fieldModule m).settled = (s.fieldModule m).settled := by
  have hm : (settledModules t)[m] = (settledModules s)[m] := by rw [h]
  rwa [settledModules, settledModules, mapTable_get, mapTable_get] at hm

/-- A change of a module that its settled record does not show. -/
theorem settledModules_modModule (s : State) (m : ModuleId) (f : FieldModule → FieldModule)
    (hf : (f (s.fieldModule m)).settled = (s.fieldModule m).settled) : settledModules (s.modModule m f) = settledModules s := by
  refine Vector.ext fun k hk => ?_
  have get (t : State) : (settledModules t)[k] = (t.fieldModule ⟨k, hk⟩).settled := mapTable_get _ t.flc.modules ⟨k, hk⟩
  rw [get, get, State.modModule_apply]
  split
  · rename_i hm; rw [hf, hm]
  · rfl

@[simp] theorem settledModules_queueReport (s : State) (r : Report) : settledModules (queueReport s r) = settledModules s := rfl
@[simp] theorem settledModules_modPage (s : State) (p : PageId) (f : Page → Page) :
    settledModules (s.modPage p f) = settledModules s := rfl
@[simp] theorem settledModules_modBus (s : State) (b : BusId) (f : Bus → Bus) :
    settledModules (s.modBus b f) = settledModules s := rfl
@[simp] theorem settledModules_modZone (s : State) (z : ZoneId) (f : Zone → Zone) :
    settledModules (s.modZone z f) = settledModules s := rfl
@[simp] theorem settledModules_modStation (s : State) (x : StationId) (f : Station → Station) :
    settledModules (s.modStation x f) = settledModules s := rfl
@[simp] theorem settledModules_modCall (s : State) (c : CallId) (f : Call → Call) :
    settledModules (s.modCall c f) = settledModules s := rfl
@[simp] theorem settledModules_modGroup (s : State) (g : GroupId) (f : Group → Group) :
    settledModules (s.modGroup g f) = settledModules s := rfl
@[simp] theorem settledModules_pageNotice (s : State) (p : PageId) (e : PageEvent) :
    settledModules (pageNotice s p e) = settledModules s := rfl
@[simp] theorem settledModules_holdPage (s : State) (p : PageId) : settledModules (holdPage s p) = settledModules s := rfl

@[simp] theorem settledModules_changeChannel (s : State) (k : ChannelId) (f : Channel → Channel) :
    settledModules (changeChannel s k f) = settledModules s :=
  settledModules_of_modules (by unfold changeChannel; dsimp only; split <;> rfl)

@[simp] theorem settledModules_placeClaim (s : State) (k : ChannelId) (c : ClaimKind) :
    settledModules (placeClaim s k c) = settledModules s := settledModules_changeChannel ..
@[simp] theorem settledModules_dropClaim (s : State) (k : ChannelId) (c : ClaimKind) :
    settledModules (dropClaim s k c) = settledModules s := settledModules_changeChannel ..

/-- A pending route is set of a PRESENT module alone. -/
@[simp] theorem settledModules_setPendingRoute (s : State) (m : ModuleId) :
    settledModules (setPendingRoute s m) = settledModules s := by
  unfold setPendingRoute
  split
  · rename_i hm
    exact settledModules_modModule _ _ _ (by simp [FieldModule.settled, hm])
  · rfl

@[simp] theorem settledModules_setRoute (s : State) (z : ZoneId) (r : Setting) :
    settledModules (setRoute s z r) = settledModules s := settledModules_setPendingRoute ..

@[simp] theorem settledModules_refollow (s : State) (z : ZoneId) : settledModules (refollow s z) = settledModules s := by
  unfold refollow
  dsimp only
  split
  · rfl
  · exact settledModules_setRoute ..

@[simp] theorem settledModules_resumePage (s : State) (q : PageId) : settledModules (resumePage s q) = settledModules s := by
  unfold resumePage
  split <;> rfl

@[simp] theorem settledModules_takeMainSource (s : State) (p : PageId) (b : BusId) :
    settledModules (takeMainSource s p b) = settledModules s := by
  unfold takeMainSource
  split
  · rfl
  · rfl
  · exact (settledModules_placeClaim ..).trans (settledModules_modBus ..)

theorem settledModules_takeZone (p : PageId) (b : BusId) (s : State) (z : ZoneId) :
    settledModules (takeZone p b s z) = settledModules s := by
  unfold takeZone
  split
  · simp only [settledModules_setRoute, settledModules_modPage, settledModules_modZone]
    split
    · rfl
    · split <;> simp
  · rfl

theorem settledModules_claimBeacons (s : State) (p : PageId) : settledModules (claimBeacons s p) = settledModules s := by
  unfold claimBeacons
  split
  · exact (foldl_keeps settledModules settledModules_refollow _ _).trans
      (foldl_keeps settledModules (fun _ _ => (settledModules_placeClaim ..).trans (settledModules_modPage ..)) _ s)
  · rfl

@[simp] theorem settledModules_startPage (s : State) (p : PageId) (b : BusId) :
    settledModules (startPage s p b) = settledModules s := by
  unfold startPage
  extract_lets s0 s1 s2 s3 s4 s5 r s6 s7 s8 s9
  have onBus : settledModules s3 = settledModules s1 := (settledModules_modPage s2 p _).trans (settledModules_modBus s1 b _)
  have taken : settledModules s4 = settledModules s3 := foldl_keeps settledModules (settledModules_takeZone p b) _ s3
  have claimed : settledModules s5 = settledModules s4 := settledModules_claimBeacons s4 p
  clear_value s5
  have sounds : settledModules s8 = settledModules s5 := by
    dsimp only [s8]
    split
    · exact (settledModules_modPage s7 _ _).trans ((settledModules_placeClaim s6 _ _).trans (settledModules_modBus s5 _ _))
    · rw [settledModules_modPage, settledModules_takeMainSource]
  have timed : settledModules s9 = settledModules s8 := settledModules_modPage s8 p _
  exact (settledModules_pageNotice s9 p .started).trans
    (timed.trans (sounds.trans (claimed.trans (taken.trans onBus))))

@[simp] theorem settledModules_scanPage (s : State) (p : PageId) : settledModules (scanPage s p) = settledModules s := by
  unfold scanPage
  split
  · rfl
  · split <;> simp

@[simp] theorem settledModules_queueScan (s : State) : settledModules (queueScan s) = settledModules s :=
  foldl_keeps settledModules settledModules_scanPage _ s

theorem settledModules_popZone (s : State) (z : ZoneId) : settledModules (popZone s z) = settledModules s := by
  unfold popZone
  split
  · exact settledModules_setRoute ..
  · rw [settledModules_resumePage, settledModules_setRoute, settledModules_modPage, settledModules_modZone]

theorem settledModules_endPageNoScan (s : State) (p : PageId) (c : EndCause) :
    settledModules (endPageNoScan s p c) = settledModules s := by
  unfold endPageNoScan
  extract_lets s0 s1 s2 s3 s4 s5 s6 s7 s8
  have popped : settledModules s2 = settledModules s1 := foldl_keeps settledModules settledModules_popZone _ s1
  have unqueued : settledModules s1 = settledModules s := rfl
  have unstacked : settledModules s3 = settledModules s2 :=
    foldl_keeps settledModules (fun u z => settledModules_modZone u z _) _ s2
  have dropped : settledModules s4 = settledModules s3 :=
    dropPageClaims_view settledModules s3 p settledModules_dropClaim settledModules_refollow
  have freed : settledModules s5 = settledModules s4 := by
    dsimp only [s5]
    split
    · exact settledModules_modBus ..
    · rfl
  have voiceless : settledModules s6 = settledModules s5 := by
    dsimp only [s6]
    unfold dropVoicePage
    split <;> simp
  have noted : settledModules s8 = settledModules s6 :=
    (settledModules_pageNotice s7 p .ended).trans (settledModules_modPage s6 p _)
  have taken : settledModules (ownerTakesEnd s8 p c) = settledModules s8 := by
    unfold ownerTakesEnd
    split
    · exact settledModules_modGroup ..
    · split
      · rfl
      · exact settledModules_modCall ..
    · rfl
  exact taken.trans (noted.trans (voiceless.trans (freed.trans (dropped.trans (unstacked.trans (popped.trans unqueued))))))

theorem settledModules_examinePage (s : State) (p : PageId) : settledModules (examinePage s p) = settledModules s := by
  unfold examinePage
  dsimp only
  repeat' split
  · exact (settledModules_queueScan _).trans (settledModules_endPageNoScan ..)
  · rfl
  · rfl
  · rfl

@[simp] theorem settledModules_zoneLost (s : State) (z : ZoneId) : settledModules (zoneLost s z) = settledModules s := by
  unfold zoneLost
  extract_lets playing stack s1 s2 holders s3 changed s4 s5
  have silent : settledModules s1 = settledModules s := by
    dsimp only [s1, playing]
    split <;> rfl
  have unstacked : settledModules s2 = settledModules s1 :=
    foldl_keeps settledModules (fun u q => settledModules_modPage u q _) _ s1
  have dropped : settledModules s3 = settledModules s2 :=
    foldl_keeps settledModules (fun u p => (settledModules_dropClaim ..).trans (settledModules_modPage u p _)) _ s2
  have idle : settledModules s4 = settledModules s3 := settledModules_modZone ..
  have routed : settledModules s5 = settledModules s4 := by
    dsimp only [s5]
    split
    · exact settledModules_setPendingRoute ..
    · rfl
  exact (foldl_keeps settledModules settledModules_examinePage _ s5).trans
    (routed.trans (idle.trans (dropped.trans (unstacked.trans silent))))

@[simp] theorem settledModules_zoneReturned (s : State) (z : ZoneId) :
    settledModules (zoneReturned s z) = settledModules s := by
  unfold zoneReturned
  split
  · exact settledModules_queueScan s
  · exact settledModules_refollow s z
  · rfl

/-! ## The change of a zone -/

/-- Zones of the same health agree in the Field Line Controller's fields. -/
theorem Zone.health_iff {d e : Zone} : d.health = e.health ↔
    d.kind = e.kind ∧ d.service = e.service ∧ d.fault = e.fault ∧ d.faultGen = e.faultGen ∧ d.load = e.load := by
  simp [Zone.health]

/-- The fields that a ZONE STATE notice watches change with the new record (R161). -/
def Zone.differs (d old : Zone) : Prop :=
  ¬ (d.kind = old.kind ∧ d.service = old.service ∧ d.fault = old.fault ∧ d.faultGen = old.faultGen)

/-- A zone that changes and does not leave IN SERVICE is a notice. -/
theorem changeZone_noticed {s : State} {z : ZoneId} {d : Zone} (hd : d.differs (s.zone z))
    (hs : ¬ ((s.zone z).service = .inService ∧ d.service ≠ .inService)) :
    changeZone s z d = queueReport (s.modZone z fun _ => d) (.zoneState z d.kind d.service d.fault d.faultGen) := by
  unfold Zone.differs at hd
  unfold changeZone zoneNotice
  dsimp only
  rw [if_neg hs, if_neg hd, State.modZone_same]

/-- A zone that leaves IN SERVICE is a notice, then the loss. -/
theorem changeZone_lost {s : State} {z : ZoneId} {d : Zone} (hd : d.differs (s.zone z))
    (hin : (s.zone z).service = .inService) (hout : d.service ≠ .inService) :
    changeZone s z d =
      zoneLost (queueReport (s.modZone z fun _ => d) (.zoneState z d.kind d.service d.fault d.faultGen)) z := by
  unfold Zone.differs at hd
  unfold changeZone zoneNotice
  dsimp only
  rw [if_pos ⟨hin, hout⟩, if_neg hd, State.modZone_same]

/-- A record put in its own place changes nothing. -/
theorem changeZone_self (s : State) (z : ZoneId) : changeZone s z (s.zone z) = s := by
  have same : (s.modZone z fun _ => s.zone z) = s := by
    unfold State.modZone
    rw [upd_id s.flc.zones z _ rfl]
  unfold changeZone
  dsimp only
  rw [if_neg (fun h => h.2 h.1), if_pos ⟨rfl, rfl, rfl, rfl⟩, same]

/-- A changed zone has the health of its new record, and the others keep theirs: the loss touches only what the zone plays. -/
theorem changeZone_health (s : State) (z : ZoneId) (d : Zone) (y : ZoneId) :
    ((changeZone s z d).zone y).health = if y = z then d.health else (s.zone y).health := by
  unfold changeZone
  extract_lets old t u
  have hu : (u.zone y).health = if y = z then d.health else (s.zone y).health := by
    have same : u.zone y = t.zone y := by
      dsimp only [u]
      split <;> rfl
    rw [same, State.modZone_apply]
    split <;> rfl
  split
  · exact ((zoneLost_quiet u z).health y).trans hu
  · exact hu

/-- The change of a zone reaches no module but for a PRESENT one's pending route. -/
@[simp] theorem settledModules_changeZone (s : State) (z : ZoneId) (d : Zone) :
    settledModules (changeZone s z d) = settledModules s := by
  unfold changeZone
  extract_lets old t u
  have hu : settledModules u = settledModules s := by
    dsimp only [u]
    split <;> rfl
  split
  · exact (settledModules_zoneLost u z).trans hu
  · exact hu

/-! ## Latched faults -/

/-- A fault that the zone holds already, out of service or FAULTED, is no change. -/
theorem Zone.latch_held {d : Zone} {f : FaultKind} (hs : d.service ≠ .inService) (hf : d.fault = some f) : d.latch f = d := by
  simp [Zone.latch, hs, ← hf]

/-- A new fault is a change. -/
theorem Zone.latch_differs {d : Zone} {f : FaultKind} (hf : d.fault ≠ some f) : (d.latch f).differs d :=
  fun h => hf h.2.2.1.symm

/-- A zone with a latched fault is not IN SERVICE. -/
theorem Zone.latch_service_ne (d : Zone) (f : FaultKind) : (d.latch f).service ≠ .inService := by
  unfold Zone.latch
  dsimp only
  split
  · simp
  · assumption

/-- Settles O56: `changeZone` by the latched record, which differs when the fault is new and is the old one when it is held. -/
theorem faultsAreLatched : Obligations.FaultsAreLatched := by
  unfold Obligations.FaultsAreLatched
  intro s z f d e u n
  have latched (y : ZoneId) := changeZone_health s z (d.latch f) y
  have same := latched z
  rw [if_pos rfl] at same
  obtain ⟨-, service, fault, gen, -⟩ := Zone.health_iff.mp same
  refine ⟨fun hin hf => ?_, fun hout hf => ?_, fun hout hf => ?_, fault, gen, service, fun y hy => ?_⟩
  · exact changeZone_lost (Zone.latch_differs hf) hin (Zone.latch_service_ne d f)
  · exact changeZone_noticed (Zone.latch_differs hf) fun h => hout h.1
  · rw [latchFault, Zone.latch_held hout hf, changeZone_self]
  · have other := latched y
    rw [if_neg hy] at other
    obtain ⟨kind, service, fault, gen, -⟩ := Zone.health_iff.mp other
    exact ⟨fault, gen, service, kind⟩

end Sys2Proof.Machine
end

section
/-!
PROOFS. The requests on modules and zones: MODULE SET (O29), ZONE RESTORE and ZONE SERVICE (O55).
-/

namespace Sys2Proof.Machine

/-! ## The two zones of a module -/

theorem zoneB_ne_zoneA (m : ModuleId) : zoneB m ≠ zoneA m := by
  simp [zoneA, zoneB, Fin.ext_iff]

/-- A change of one zone's health, made of both zones of a module, changes those two by what each was. -/
theorem zonesOf_health {op : State → ZoneId → State} {g : Zone → Zone}
    (hg : ∀ d e : Zone, d.health = e.health → (g d).health = (g e).health)
    (hop : ∀ s z y, ((op s z).zone y).health = if y = z then (g (s.zone z)).health else (s.zone y).health)
    (s : State) (m : ModuleId) (y : ZoneId) :
    ((op (op s (zoneA m)) (zoneB m)).zone y).health =
      if y = zoneA m ∨ y = zoneB m then (g (s.zone y)).health else (s.zone y).health := by
  rw [hop]
  by_cases hb : y = zoneB m
  · subst hb
    rw [if_pos rfl, if_pos (.inr rfl)]
    refine hg _ _ ?_
    rw [hop, if_neg (zoneB_ne_zoneA m)]
  · rw [if_neg hb, hop]
    by_cases ha : y = zoneA m
    · subst ha; rw [if_pos rfl, if_pos (.inl rfl)]
    · rw [if_neg ha, if_neg (not_or.mpr ⟨ha, hb⟩)]

/-- A zone's record with a fault latched and no kind (R153, R160). -/
def Zone.latchNoKind (d : Zone) (f : FaultKind) : Zone := { d.latch f with kind := .none }

/-- What a fault latches is read from the health alone. -/
theorem Zone.latch_health (f : FaultKind) {d e : Zone} (h : d.health = e.health) : (d.latch f).health = (e.latch f).health := by
  obtain ⟨kind, service, fault, gen, load⟩ := Zone.health_iff.mp h
  simp only [Zone.health, Zone.latch, kind, service, fault, gen, load]

theorem Zone.latchNoKind_health (f : FaultKind) {d e : Zone} (h : d.health = e.health) :
    (d.latchNoKind f).health = (e.latchNoKind f).health := by
  have latched := Zone.latch_health f h
  obtain ⟨-, service, fault, gen, load⟩ := Zone.health_iff.mp latched
  simp only [Zone.health, Zone.latchNoKind, service, fault, gen, load]

theorem latchFaults_health (s : State) (m : ModuleId) (f : FaultKind) (y : ZoneId) :
    ((latchFault (latchFault s (zoneA m) f) (zoneB m) f).zone y).health =
      if y = zoneA m ∨ y = zoneB m then ((s.zone y).latch f).health else (s.zone y).health :=
  zonesOf_health (op := (latchFault · · f)) (fun _ _ => Zone.latch_health f) (fun s z y => changeZone_health s z _ y) s m y

theorem latchNoKinds_health (s : State) (m : ModuleId) (f : FaultKind) (y : ZoneId) :
    ((latchNoKind (latchNoKind s (zoneA m) f) (zoneB m) f).zone y).health =
      if y = zoneA m ∨ y = zoneB m then ((s.zone y).latchNoKind f).health else (s.zone y).health :=
  zonesOf_health (op := (Machine.latchNoKind · · f)) (fun _ _ => Zone.latchNoKind_health f)
    (fun s z y => changeZone_health s z _ y) s m y

theorem settledModules_latchFaults (s : State) (y z : ZoneId) (f : FaultKind) :
    settledModules (latchFault (latchFault s y f) z f) = settledModules s :=
  (settledModules_changeZone ..).trans (settledModules_changeZone ..)

theorem settledModules_latchNoKinds (s : State) (y z : ZoneId) (f : FaultKind) :
    settledModules (latchNoKind (latchNoKind s y f) z f) = settledModules s :=
  (settledModules_changeZone ..).trans (settledModules_changeZone ..)

/-! ## MODULE SET -/

/-- A new type is only stored of a module that is ABSENT or in MISMATCH. -/
theorem storeModule_stored {s : State} {m : ModuleId} (t : ModuleType)
    (hm : (s.fieldModule m).state = .absent ∨ (s.fieldModule m).state = .mismatch) :
    storeModule s m t = s.modModule m fun d => { d with configured := t } := by
  unfold storeModule
  rcases hm with h | h <;> simp [h]

/-- The module that a new type turns to MISMATCH, before its zones lose their kind. -/
def retyped (s : State) (m : ModuleId) (t : ModuleType) : State :=
  moduleNotice (s.modModule m fun d =>
    { d with configured := t, state := .mismatch, pendingRoute := none, appliedRoute := none }) m

/-- A PRESENT or MISSING module goes to MISMATCH, and both its zones lose their kind. -/
theorem storeModule_mismatch {s : State} {m : ModuleId} (t : ModuleType)
    (hm : (s.fieldModule m).state = .present ∨ (s.fieldModule m).state = .missing) :
    storeModule s m t =
      latchNoKind (latchNoKind (retyped s m t) (zoneA m) .typeMismatch) (zoneB m) .typeMismatch := by
  have once : (s.modModule m fun d => { d with configured := t }).modModule m (fun d =>
      { d with state := .mismatch, pendingRoute := none, appliedRoute := none }) =
        s.modModule m fun d => { d with configured := t, state := .mismatch, pendingRoute := none, appliedRoute := none } := by
    unfold State.modModule
    rw [upd_upd]
  unfold storeModule retyped
  rcases hm with h | h <;> simp [h, once]

theorem moduleSetOwner_ok {s : State} {moduleNo kind : Byte} {m : ModuleId} {ty : ModuleType}
    (hm : readFin 24 moduleNo.toNat = some m) (ht : readModuleType kind = some ty) (hs : s.isSaving = false) :
    moduleSetOwner moduleNo kind s =
      let u := if (s.fieldModule m).configured = ty then s else storeModule s m ty
      .ok u [(u.fieldModule m).state.code] := by
  simp [moduleSetOwner, hm, ht, hs]

/-- Settles O29: the owner's state is `storeModule` of a type that differs, whose last case is `retyped` with both zones without
a kind. -/
theorem moduleSetChangesTheType : Obligations.ModuleSetChangesTheType := by
  unfold Obligations.ModuleSetChangesTheType
  intro h moduleNo kind s m ty hr hm ht hs
  have howner := moduleSetOwner_ok (s := framerHunt s) hm ht hs
  refine ⟨fun heq => ?_, fun hne hstate => ?_, fun hne hstate => ?_⟩
  · rw [if_pos (by exact heq)] at howner
    exact received_taken hr (by simp) howner
  · rw [if_neg (by exact hne), storeModule_stored (s := framerHunt s) ty hstate] at howner
    simp only [State.modModule_same, framerHunt_fieldModule] at howner
    exact received_taken hr (by simp) howner
  · rw [if_neg (by exact hne), storeModule_mismatch (s := framerHunt s) ty hstate] at howner
    let v := retyped (framerHunt s) m ty
    let t := latchNoKind (latchNoKind v (zoneA m) .typeMismatch) (zoneB m) .typeMismatch
    have hv : v.fieldModule m = { s.fieldModule m with
        configured := ty, state := .mismatch, pendingRoute := none, appliedRoute := none } :=
      State.modModule_same (framerHunt s) m _
    have hmodule : t.fieldModule m = v.fieldModule m :=
      FieldModule.eq_of_settled (settledModules_get (settledModules_latchNoKinds v _ _ _) m) (by rw [hv]; simp)
    have health (z : ZoneId) : (t.zone z).health =
        if z = zoneA m ∨ z = zoneB m then ((s.zone z).latchNoKind .typeMismatch).health else (s.zone z).health :=
      latchNoKinds_health v m .typeMismatch z
    have hcode : (t.fieldModule m).state.code = 3 := by rw [hmodule, hv]; rfl
    refine ⟨replied t 0x0D h .ok [3], hcode ▸ received_taken hr (by simp) howner, replied_hasReply .., ?_, fun z hz => ?_,
      fun z ha hb => ?_⟩
    · simpa [replied] using hmodule.trans hv
    · have both := health z
      rw [if_pos hz] at both
      obtain ⟨kind, service, fault, gen, -⟩ := Zone.health_iff.mp both
      have service' : (t.zone z).service = if (s.zone z).service = .outOfService then .outOfService else .faulted := by
        rw [service]
        cases hz : (s.zone z).service <;> simp [Zone.latchNoKind, Zone.latch, hz]
      simpa [replied] using ⟨kind, fault, service', gen⟩
    · have other := health z
      rw [if_neg (not_or.mpr ⟨ha, hb⟩)] at other
      obtain ⟨kind, service, fault, gen, -⟩ := Zone.health_iff.mp other
      simpa [replied] using ⟨kind, service, fault, gen⟩

/-! ## ZONE RESTORE -/

@[simp] theorem replied_fieldModule (t : State) (kind : Byte) (h : Header) (code : Code) (fields : List Byte) (m : ModuleId) :
    (replied t kind h code fields).fieldModule m = t.fieldModule m := by simp [replied]

/-- The setting of a zone is read from its record. -/
theorem settingOf_congr {s t : State} {z : ZoneId} (h : t.zone z = s.zone z) : settingOf t z = settingOf s z := by
  simp only [settingOf, h]

/-- The pending route of a PRESENT module is set from both its zones. -/
theorem setPendingRoute_present {s : State} {m : ModuleId} (h : (s.fieldModule m).state = .present) :
    ((setPendingRoute s m).fieldModule m).pendingRoute =
      some { a := settingOf s (zoneA m), b := settingOf s (zoneB m) } := by
  rw [setPendingRoute, if_pos h, State.modModule_same]

/-- Zone `z` is put in place as `d` with its notice, returns, and its module's route is set (R158, R159). -/
def zoneBack (s : State) (z : ZoneId) (d : Zone) : State :=
  setPendingRoute (zoneReturned (zoneNotice (s.modZone z fun _ => d) z) z) (moduleOf z)

theorem zoneBack_health (s : State) (z : ZoneId) (d : Zone) (y : ZoneId) :
    ((zoneBack s z d).zone y).health = if y = z then d.health else (s.zone y).health := by
  have back : Quiet (s.modZone z fun _ => d) (zoneBack s z d) :=
    (Quiet.report _ _).trans ((zoneReturned_quiet ..).trans (setPendingRoute_quiet ..))
  rw [back.health y, State.modZone_apply]
  split <;> rfl

/-- The route that a zone's return sets for its PRESENT module. -/
theorem zoneBack_route {s : State} {z : ZoneId} (d : Zone) (hm : (s.fieldModule (moduleOf z)).state = .present) :
    ((zoneBack s z d).fieldModule (moduleOf z)).pendingRoute =
      some { a := settingOf (zoneBack s z d) (zoneA (moduleOf z)), b := settingOf (zoneBack s z d) (zoneB (moduleOf z)) } := by
  unfold zoneBack
  generalize hu : zoneReturned (zoneNotice (s.modZone z fun _ => d) z) z = u
  have still : (u.fieldModule (moduleOf z)).identity = (s.fieldModule (moduleOf z)).identity :=
    hu ▸ (zoneReturned_quiet (zoneNotice (s.modZone z fun _ => d) z) z).modules (moduleOf z)
  have present : (u.fieldModule (moduleOf z)).state = .present := by
    simp only [FieldModule.identity, Prod.mk.injEq] at still
    exact still.2.2.2.trans hm
  rw [setPendingRoute_present present, settingOf_congr (setPendingRoute_zone u _ _),
    settingOf_congr (setPendingRoute_zone u _ _)]

section Restore

variable {s : State} {zone generation : Byte} {z : ZoneId} (hrun : s.running = true) (hz : readFin 48 zone.toNat = some z)
include hrun hz

theorem zoneRestoreOwner_notFaulted (h : (s.zone z).service ≠ .faulted) :
    zoneRestoreOwner zone generation s = .refuse .wrongState := by
  simp [zoneRestoreOwner, hrun, hz, h]

theorem zoneRestoreOwner_stale (h : (s.zone z).service = .faulted) (h0 : generation ≠ 0)
    (hg : generation ≠ (s.zone z).faultGen) :
    zoneRestoreOwner zone generation s = .refuse .stale := by
  have stale : staleGen generation (s.zone z).faultGen = true := by
    simpa [staleGen] using ⟨h0, hg⟩
  simp [zoneRestoreOwner, hrun, hz, h, stale]

theorem zoneRestoreOwner_notPresent (h : (s.zone z).service = .faulted) (hg : generation = 0 ∨ generation = (s.zone z).faultGen)
    (hm : (s.fieldModule (moduleOf z)).state ≠ .present) : zoneRestoreOwner zone generation s = .refuse .wrongState := by
  rcases hg with hg | hg <;> simp [zoneRestoreOwner, staleGen, hrun, hz, h, hg, hm]

theorem zoneRestoreOwner_ok (h : (s.zone z).service = .faulted) (hg : generation = 0 ∨ generation = (s.zone z).faultGen)
    (hm : (s.fieldModule (moduleOf z)).state = .present) :
    zoneRestoreOwner zone generation s =
      let t := zoneBack s z { s.zone z with fault := none, service := .inService }
      .ok t [(t.zone z).service.code, (t.zone z).faultGen] := by
  have put : (s.modZone z fun d => { d with fault := none, service := .inService }) =
      s.modZone z fun _ => { s.zone z with fault := none, service := .inService } := rfl
  rcases hg with hg | hg <;> simp [zoneRestoreOwner, staleGen, hrun, hz, h, hg, hm, zoneBack, put]

/-! ## ZONE SERVICE -/

theorem zoneServiceOwner_off (h : (s.zone z).service ≠ .outOfService) :
    zoneServiceOwner zone 0 s = .ok (zoneOff s z) [((zoneOff s z).zone z).service.code] := by
  simp [zoneServiceOwner, readFlag, hrun, hz, h]

theorem zoneServiceOwner_on (h : (s.zone z).service = .outOfService) :
    zoneServiceOwner zone 1 s = .ok (zoneOn s z) [((zoneOn s z).zone z).service.code] := by
  simp [zoneServiceOwner, readFlag, hrun, hz, h]

theorem zoneServiceOwner_notOut (h : (s.zone z).service ≠ .outOfService) :
    zoneServiceOwner zone 1 s = .refuse .wrongState := by
  simp [zoneServiceOwner, readFlag, hrun, hz, h]

theorem zoneServiceOwner_out (h : (s.zone z).service = .outOfService) :
    zoneServiceOwner zone 0 s = .refuse .wrongState := by
  simp [zoneServiceOwner, readFlag, hrun, hz, h]

end Restore

/-- A zone taken out keeps its fault. -/
theorem zoneOff_health (s : State) (z : ZoneId) :
    ((zoneOff s z).zone z).health = { s.zone z with service := .outOfService }.health :=
  (changeZone_health ..).trans (if_pos rfl)

/-- A zone put back is FAULTED over a fault and IN SERVICE otherwise, and keeps its fault. -/
theorem zoneOn_health (s : State) (z : ZoneId) : ((zoneOn s z).zone z).health =
    { s.zone z with service := if (s.zone z).fault.isSome then .faulted else .inService }.health := by
  unfold zoneOn
  split
  · exact congrArg Zone.health (State.modZone_same ..)
  · dsimp only
    split
    · exact congrArg Zone.health (State.modZone_same ..)
    · exact (zoneBack_health s z { s.zone z with service := .inService } z).trans (if_pos rfl)

/-- Settles O55: each owner's checks in order, then the zone's new record with its return or its loss. -/
theorem zonesAreRestoredAndTakenOut : Obligations.ZonesAreRestoredAndTakenOut := by
  unfold Obligations.ZonesAreRestoredAndTakenOut
  intro h zone generation s z hr hmode hz
  have hrun := framerHunt_running hmode
  refine ⟨fun hs => ?_, fun hs h0 hg => ?_, fun hs hg => ⟨fun hm => ?_, fun hm => ?_⟩, fun hs => ⟨?_, ?_⟩,
    fun hs => ⟨?_, ?_⟩⟩
  · exact received_refused hr (by simp) (zoneRestoreOwner_notFaulted hrun hz hs)
  · exact received_refused hr (by simp) (zoneRestoreOwner_stale hrun hz hs h0 hg)
  · exact received_refused hr (by simp) (zoneRestoreOwner_notPresent hrun hz hs hg hm)
  · have health := zoneBack_health (framerHunt s) z { s.zone z with fault := none, service := .inService }
    have route := zoneBack_route (s := framerHunt s) { s.zone z with fault := none, service := .inService } hm
    have taken := received_taken hr (lengths := [2]) (kind := 0x3E) (by simp)
      (zoneRestoreOwner_ok (s := framerHunt s) hrun hz hs hg hm)
    rw [framerHunt_zone] at taken
    generalize zoneBack (framerHunt s) z { s.zone z with fault := none, service := .inService } = t at health route taken
    have restored := health z
    rw [if_pos rfl] at restored
    obtain ⟨kind, service, fault, gen, -⟩ := Zone.health_iff.mp restored
    rw [service, gen] at taken
    refine ⟨_, taken, by simpa using service, by simpa using fault, by simpa using gen, by simpa using kind,
      replied_hasReply .., ?_, fun y hy => ?_⟩
    · rw [replied_fieldModule, route, settingOf_congr (replied_zone ..), settingOf_congr (replied_zone ..)]
    · have other := health y
      rw [if_neg hy] at other
      obtain ⟨kind, service, fault, gen, -⟩ := Zone.health_iff.mp other
      simpa using ⟨service, fault, gen, kind⟩
  · exact received_refused hr (by simp) (zoneServiceOwner_notOut hrun hz hs)
  · have health := zoneOff_health (framerHunt s) z
    obtain ⟨-, service, fault, gen, -⟩ := Zone.health_iff.mp health
    have taken := received_taken hr (lengths := [2]) (kind := 0x3F) (by simp)
      (zoneServiceOwner_off (s := framerHunt s) hrun hz hs)
    rw [service] at taken
    exact ⟨_, taken, by simpa using service, by simpa using fault, by simpa using gen, replied_hasReply ..⟩
  · exact received_refused hr (by simp) (zoneServiceOwner_out hrun hz hs)
  · have health := zoneOn_health (framerHunt s) z
    obtain ⟨-, service, fault, gen, -⟩ := Zone.health_iff.mp health
    have taken := received_taken hr (lengths := [2]) (kind := 0x3F) (by simp)
      (zoneServiceOwner_on (s := framerHunt s) hrun hz hs)
    refine ⟨_, taken, fun hf => ?_, fun hf => ?_, by simpa using fault, by simpa using gen⟩
    · have faulted : ((zoneOn (framerHunt s) z).zone z).service = .faulted :=
        service.trans (if_pos (Option.isSome_iff_ne_none.mpr hf))
      rw [faulted]
      exact ⟨by simpa using faulted, replied_hasReply ..⟩
    · have served : ((zoneOn (framerHunt s) z).zone z).service = .inService :=
        service.trans (if_neg (by simp [hf]))
      rw [served]
      exact ⟨by simpa using served, replied_hasReply ..⟩

end Sys2Proof.Machine
end

section
/-!
PROOFS. The exchanges of the field line: failed attempts (O59), the answers to IDENTIFY (O57), to ROUTE and to POLL (O58), and the
choice of the free line (O60).
-/

namespace Sys2Proof.Machine

/-! ## What the line arbiter leaves of modules and zones -/

/-- The line arbiter takes the pending route of a PRESENT module alone. -/
@[simp] theorem settledModules_lineArbiter (s : State) : settledModules (lineArbiter s) = settledModules s := by
  have scanned : settledModules (scanStep s) = settledModules s := by
    refine settledModules_of_modules ?_
    unfold scanStep
    split <;> rfl
  unfold lineArbiter
  split
  · exact settledModules_of_modules rfl
  · split
    · rename_i m hm
      have waits := List.find?_some hm
      rw [Bool.and_eq_true, beq_iff_eq] at waits
      split
      · exact settledModules_modModule s m (fun d => { d with pendingRoute := none }) (by simp [FieldModule.settled, waits.1])
      · exact scanned
    · exact scanned

@[simp] theorem settledModules_finish (s : State) : settledModules (finish s) = settledModules s :=
  settledModules_of_modules (congrArg Flc.modules (finish_flc s))

/-- The end of an exchange leaves the modules settled as they were. -/
theorem settledModules_endExchange (s : State) (m : ModuleId) (x : Exchange) :
    settledModules (finish (endExchange s m x)) = settledModules s := by
  rw [settledModules_finish]
  unfold endExchange
  split
  · exact settledModules_lineArbiter s
  · exact (settledModules_lineArbiter _).trans (settledModules_of_modules rfl)

/-- The end of an exchange leaves the zones. -/
theorem endExchange_zones (s : State) (m : ModuleId) (x : Exchange) :
    (finish (endExchange s m x)).flc.zones = s.flc.zones := by
  rw [finish_flc]
  unfold endExchange
  split
  · exact (lineArbiter_only s).zones
  · exact (lineArbiter_only _).zones

theorem endExchange_zone (s : State) (m : ModuleId) (x : Exchange) (z : ZoneId) :
    (finish (endExchange s m x)).zone z = s.zone z := by
  unfold State.zone
  rw [endExchange_zones]

/-- The line goes on to its next work. -/
theorem endExchange_line (s : State) (m : ModuleId) (x : Exchange) : (finish (endExchange s m x)).flc.line ≠ .free := by
  rw [finish_flc]
  exact endExchange_used s m x

/-! ## Failed attempts -/

theorem attemptFails_first {s : State} {m : ModuleId} {x : Exchange} (h : s.flc.line = .exchange m x false) :
    attemptFails s = { s with flc := { s.flc with line := .exchange m x true } } := by
  simp [attemptFails, h]

theorem attemptFails_second {s : State} {m : ModuleId} {x : Exchange} (h : s.flc.line = .exchange m x true) :
    attemptFails s = finish (endExchange (exchangeFailed s m) m x) := by
  simp [attemptFails, h]

theorem attemptFails_noExchange {s : State} (h : ∀ m x b, s.flc.line ≠ .exchange m x b) : attemptFails s = s := by
  unfold attemptFails
  split
  · rename_i hl; exact absurd hl (h _ _ _)
  · rename_i hl; exact absurd hl (h _ _ _)
  · rfl

theorem addressed_ne {a : Byte} {m : ModuleId} (h : a.toNat ≠ m.val) : addressed a m = false := by
  simpa [addressed] using h

section WrongAddress

variable {s : State} {m : ModuleId} {x : Exchange} {b : Bool} {a : Byte}
  (hl : s.flc.line = .exchange m x b) (ha : a.toNat ≠ m.val)
include hl ha

/-- An answer from another address fails the attempt, whatever its command (assumption 21). -/
theorem execIdentifyAnswer_elsewhere (k r : Byte) : execIdentifyAnswer a k r s = .next (attemptFails s) := by
  cases x <;> simp [execIdentifyAnswer, hl, addressed_ne ha]

theorem execRouteAnswer_elsewhere (p q : Byte) : execRouteAnswer a p q s = .next (attemptFails s) := by
  cases x <;> simp [execRouteAnswer, hl, addressed_ne ha]

theorem execPollAnswer_elsewhere (p q : Half) : execPollAnswer a p q s = .next (attemptFails s) := by
  cases x <;> simp [execPollAnswer, hl, addressed_ne ha]

end WrongAddress

/-- A PRESENT module that answers no more: it is MISSING and has no routes (R152). -/
def lostModule (s : State) (m : ModuleId) : State :=
  moduleNotice (s.modModule m fun d => { d with state := .missing, pendingRoute := none, appliedRoute := none }) m

theorem exchangeFailed_present {s : State} {m : ModuleId} (h : (s.fieldModule m).state = .present) :
    exchangeFailed s m = latchFault (latchFault (lostModule s m) (zoneA m) .noReply) (zoneB m) .noReply := by
  simp [exchangeFailed, h, lostModule]

/-- A module that is not PRESENT stays as it is, but for a MISMATCH one without a configured type. -/
theorem exchangeFailed_still {s : State} {m : ModuleId}
    (h : (s.fieldModule m).state = .missing ∨ (s.fieldModule m).state = .absent ∨
      ((s.fieldModule m).state = .mismatch ∧ (s.fieldModule m).configured ≠ .none)) : exchangeFailed s m = s := by
  unfold exchangeFailed
  rcases h with h | h | ⟨h, hc⟩
  · simp [h]
  · simp [h]
  · simp [h, hc]

/-- A module in MISMATCH without a configured type that answers no more is no module. -/
def goneModule (s : State) (m : ModuleId) : State :=
  moduleNotice (s.modModule m fun d => { d with state := .absent, sensed := .none, revision := none }) m

theorem exchangeFailed_gone {s : State} {m : ModuleId} (h : (s.fieldModule m).state = .mismatch)
    (hc : (s.fieldModule m).configured = .none) :
    exchangeFailed s m = clearMismatch (clearMismatch (goneModule s m) (zoneA m)) (zoneB m) := by
  simp [exchangeFailed, h, hc, goneModule]

/-- A zone without a TYPE MISMATCH fault (R152). -/
def Zone.cleared (d : Zone) : Zone :=
  if d.fault = some .typeMismatch then
    { d with fault := none, service := if d.service = .outOfService then .outOfService else .inService }
  else d

theorem Zone.cleared_health {d e : Zone} (h : d.health = e.health) : d.cleared.health = e.cleared.health := by
  obtain ⟨kind, service, fault, gen, load⟩ := Zone.health_iff.mp h
  unfold Zone.cleared
  rw [fault]
  split
  · simp only [Zone.health, kind, service, gen, load]
  · exact h

theorem Zone.cleared_fault (d : Zone) : d.cleared.fault ≠ some .typeMismatch := by
  unfold Zone.cleared
  split
  · simp
  · assumption

theorem Zone.cleared_kind (d : Zone) : d.cleared.kind = d.kind := by
  unfold Zone.cleared
  split <;> rfl

theorem clearMismatch_zone (s : State) (z y : ZoneId) :
    (clearMismatch s z).zone y = if y = z then (s.zone z).cleared else s.zone y := by
  unfold clearMismatch Zone.cleared
  dsimp only
  by_cases hf : (s.zone z).fault = some .typeMismatch
  · rw [if_pos hf, if_pos hf]
    exact State.modZone_apply ..
  · rw [if_neg hf, if_neg hf]
    split
    · rename_i h; rw [h]
    · rfl

theorem clearMismatch_modules (s : State) (z : ZoneId) : (clearMismatch s z).flc.modules = s.flc.modules := by
  unfold clearMismatch
  dsimp only
  split <;> rfl

theorem clearMismatches_health (s : State) (m : ModuleId) (y : ZoneId) :
    ((clearMismatch (clearMismatch s (zoneA m)) (zoneB m)).zone y).health =
      if y = zoneA m ∨ y = zoneB m then (s.zone y).cleared.health else (s.zone y).health :=
  zonesOf_health (op := clearMismatch) (fun _ _ => Zone.cleared_health)
    (fun s z y => by rw [clearMismatch_zone]; split <;> rfl) s m y

/-- Settles O59: `attemptFails` by the line, and its second failure by the state of the module. -/
theorem failedAttemptsAreRepeatedOnce : Obligations.FailedAttemptsAreRepeatedOnce := by
  unfold Obligations.FailedAttemptsAreRepeatedOnce
  refine ⟨fun s m x hl => ?_, fun s m x hl => ⟨fun f => ⟨rfl, rfl⟩, fun hm => ?_, fun hm => ?_, fun hm hc => ?_⟩,
    fun s hl => ?_, fun s f => rfl⟩
  · have again := congrArg (Host.Outcome.next (φ := Fault) (ρ := Refusal)) (attemptFails_first hl)
    exact ⟨again, fun _ => again, fun _ => again, fun a k r ha => (execIdentifyAnswer_elsewhere hl ha k r).trans again,
      fun a p q ha => (execRouteAnswer_elsewhere hl ha p q).trans again,
      fun a p q ha => (execPollAnswer_elsewhere hl ha p q).trans again⟩
  · have ended := (attemptFails_second hl).trans (by rw [exchangeFailed_present hm])
    let v := lostModule s m
    let u := latchFault (latchFault v (zoneA m) .noReply) (zoneB m) .noReply
    have hv : v.fieldModule m = { s.fieldModule m with state := .missing, pendingRoute := none, appliedRoute := none } :=
      State.modModule_same s m _
    have hmodule : (finish (endExchange u m x)).fieldModule m = v.fieldModule m :=
      FieldModule.eq_of_settled (settledModules_get
        ((settledModules_endExchange u m x).trans (settledModules_latchFaults v _ _ _)) m) (by rw [hv]; simp)
    rw [hv] at hmodule
    refine ⟨finish (endExchange u m x), congrArg _ ended, by rw [hmodule], by rw [hmodule], by rw [hmodule],
      endExchange_line u m x, fun z hz => ?_⟩
    have health := latchFaults_health v m .noReply z
    rw [if_pos hz] at health
    obtain ⟨kind, service, fault, -, -⟩ := Zone.health_iff.mp health
    rw [endExchange_zone]
    exact ⟨fault, fun h => Zone.latch_service_ne _ _ (service.symm.trans h), kind⟩
  · exact congrArg _ ((attemptFails_second hl).trans (by rw [exchangeFailed_still hm]))
  · have ended := (attemptFails_second hl).trans (by rw [exchangeFailed_gone hm hc])
    let v := goneModule s m
    let u := clearMismatch (clearMismatch v (zoneA m)) (zoneB m)
    have hv : v.fieldModule m = { s.fieldModule m with state := .absent, sensed := .none, revision := none } :=
      State.modModule_same s m _
    have cleared : settledModules u = settledModules v :=
      settledModules_of_modules ((clearMismatch_modules ..).trans (clearMismatch_modules ..))
    have hmodule : (finish (endExchange u m x)).fieldModule m = v.fieldModule m :=
      FieldModule.eq_of_settled (settledModules_get ((settledModules_endExchange u m x).trans cleared) m) (by rw [hv]; simp)
    rw [hv] at hmodule
    refine ⟨finish (endExchange u m x), congrArg _ ended, by rw [hmodule], by rw [hmodule], by rw [hmodule], fun z hz => ?_⟩
    have health := clearMismatches_health v m z
    rw [if_pos hz] at health
    obtain ⟨kind, -, fault, -, -⟩ := Zone.health_iff.mp health
    rw [endExchange_zone]
    exact ⟨fun h => Zone.cleared_fault _ (fault.symm.trans h), kind.trans (Zone.cleared_kind _)⟩
  · have nothing := congrArg (Host.Outcome.next (φ := Fault) (ρ := Refusal)) (attemptFails_noExchange hl)
    exact ⟨nothing, fun _ => nothing, fun _ => nothing⟩

end Sys2Proof.Machine
end

section
/-!
PROOFS. Successful exchanges of the field line: IDENTIFY (O57), ROUTE and POLL (O58).
-/

namespace Sys2Proof.Machine

/-! ## IDENTIFY -/

/-- What an identified zone becomes is read from its health. -/
theorem Zone.identified_health (k : ZoneKind) {d e : Zone} (h : d.health = e.health) :
    (d.identified k).health = (e.identified k).health := by
  obtain ⟨kind, service, fault, gen, load⟩ := Zone.health_iff.mp h
  simp only [Zone.health, Zone.identified, service, fault, gen, load]

theorem announceZone_quiet (old : Zone) (s : State) (z : ZoneId) : Quiet s (announceZone old s z) := by
  unfold announceZone
  dsimp only
  split
  · exact .rfl' s
  · split
    · exact (Quiet.report s _).trans (zoneReturned_quiet _ z)
    · exact Quiet.report s _

theorem settledModules_announceZone (old : Zone) (s : State) (z : ZoneId) :
    settledModules (announceZone old s z) = settledModules s := by
  unfold announceZone
  dsimp only
  split
  · rfl
  · split
    · exact (settledModules_zoneReturned ..).trans (settledModules_queueReport s _)
    · exact settledModules_queueReport s _

theorem settledModules_alertIfBeacon (s : State) (m : ModuleId) : settledModules (alertIfBeacon s m) = settledModules s := by
  unfold alertIfBeacon
  split
  · exact settledModules_of_modules rfl
  · rfl

/-- Module `m` becomes PRESENT with the two settings off to be sent (R153). -/
def presentModule (s : State) (m : ModuleId) : State :=
  s.modModule m fun d => { d with state := .present, pendingRoute := some { a := none, b := none }, appliedRoute := none }

/-- Both zones of an identified module take its kind. -/
def identifiedZones (s : State) (m : ModuleId) (t : ModuleType) : State :=
  (s.modZone (zoneA m) fun d => d.identified t.zoneKind).modZone (zoneB m) fun d => d.identified t.zoneKind

/-- The notices and the returns that follow are quiet (assumption 23). -/
theorem moduleIdentified_quiet (s : State) (m : ModuleId) (t : ModuleType) :
    Quiet (identifiedZones (presentModule s m) m t) (moduleIdentified s m t) := by
  unfold moduleIdentified
  extract_lets oldA oldB s1 s2 s3 s4
  have noticed : Quiet s3 s4 := (alertIfBeacon_quiet s3 m).trans (Quiet.report ..)
  exact noticed.trans ((announceZone_quiet ..).trans (announceZone_quiet ..))

theorem moduleIdentified_health (s : State) (m : ModuleId) (t : ModuleType) (y : ZoneId) :
    ((moduleIdentified s m t).zone y).health =
      if y = zoneA m ∨ y = zoneB m then ((s.zone y).identified t.zoneKind).health else (s.zone y).health := by
  rw [(moduleIdentified_quiet s m t).health y]
  exact zonesOf_health (op := fun s z => s.modZone z fun d => d.identified t.zoneKind)
    (fun _ _ => Zone.identified_health t.zoneKind) (fun s z y => by rw [State.modZone_apply]; split <;> rfl)
    (presentModule s m) m y

theorem settledModules_moduleIdentified (s : State) (m : ModuleId) (t : ModuleType) :
    settledModules (moduleIdentified s m t) = settledModules (presentModule s m) := by
  unfold moduleIdentified
  extract_lets oldA oldB s1 s2 s3 s4
  have kinds : settledModules s3 = settledModules s1 := (settledModules_modZone s2 _ _).trans (settledModules_modZone s1 _ _)
  have noticed : settledModules s4 = settledModules s3 :=
    (settledModules_queueReport ..).trans (settledModules_alertIfBeacon s3 m)
  exact (settledModules_announceZone ..).trans ((settledModules_announceZone ..).trans (noticed.trans kinds))

/-- The answer's type and revision are stored. -/
def storeSensed (s : State) (m : ModuleId) (t : ModuleType) (revision : Byte) : State :=
  s.modModule m fun d => { d with sensed := t, revision := some revision }

section Identify

variable {s : State} {m : ModuleId} {ty : ModuleType} (revision : Byte)

/-- An ABSENT or MISMATCH module that answers with its configured type is identified. -/
theorem identifySucceeds_configured (hm : (s.fieldModule m).state = .absent ∨ (s.fieldModule m).state = .mismatch)
    (ht : (s.fieldModule m).configured = ty) :
    identifySucceeds s m ty revision = moduleIdentified (storeSensed s m ty revision) m ty := by
  unfold identifySucceeds
  rcases hm with hm | hm <;> simp [hm, ht, storeSensed]

/-- An ABSENT module of another type, before its zones lose their kind. -/
def mismatched (s : State) (m : ModuleId) (t : ModuleType) (revision : Byte) : State :=
  moduleNotice ((storeSensed s m t revision).modModule m fun d => { d with state := .mismatch }) m

theorem identifySucceeds_other_absent (hm : (s.fieldModule m).state = .absent) (ht : (s.fieldModule m).configured ≠ ty) :
    identifySucceeds s m ty revision =
      latchNoKind (latchNoKind (mismatched s m ty revision) (zoneA m) .typeMismatch) (zoneB m) .typeMismatch := by
  simp [identifySucceeds, hm, Ne.symm ht, mismatched, storeSensed]

/-- A module that is in MISMATCH already stores what it answers: nothing else changes but for the notice. -/
theorem identifySucceeds_other_mismatch (hm : (s.fieldModule m).state = .mismatch) (ht : (s.fieldModule m).configured ≠ ty) :
    (identifySucceeds s m ty revision).fieldModule m =
        { s.fieldModule m with sensed := ty, revision := some revision } ∧
      (identifySucceeds s m ty revision).flc.zones = s.flc.zones := by
  have stays : identifySucceeds s m ty revision =
      if (s.fieldModule m).sensed = ty ∧ (s.fieldModule m).revision = some revision then s
      else moduleNotice (storeSensed s m ty revision) m := by
    simp [identifySucceeds, hm, Ne.symm ht, storeSensed]
  rw [stays]
  split
  · rename_i h
    obtain ⟨hs, hr⟩ := h
    exact ⟨by rw [← hs, ← hr], rfl⟩
  · exact ⟨State.modModule_same s m _, rfl⟩

theorem execIdentifyAnswer_taken {address kind : Byte} {again : Bool} (hl : s.flc.line = .exchange m .identify again)
    (ha : address.toNat = m.val) (ht : readTypeCode kind = some ty) :
    execIdentifyAnswer address kind revision s = .next (finish (endExchange (identifySucceeds s m ty revision) m .identify)) := by
  simp [execIdentifyAnswer, hl, addressed, ha, ht]

end Identify

/-- An identified zone's fields (R153). -/
theorem Zone.identified_fields (d : Zone) (k : ZoneKind) :
    (d.identified k).kind = k ∧ (d.identified k).faultGen = d.faultGen ∧
      (d.identified k).fault = (if d.fault = some .typeMismatch then none else d.fault) ∧
      (d.service = .outOfService → (d.identified k).service = .outOfService) ∧
      (d.service ≠ .outOfService → (d.identified k).fault = none → (d.identified k).service = .inService) := by
  refine ⟨rfl, rfl, rfl, fun hs => if_pos hs, fun hs hf => ?_⟩
  have none' : (if d.fault = some .typeMismatch then none else d.fault).isNone = true := Option.isNone_iff_eq_none.mpr hf
  exact (if_neg hs).trans (if_pos none')

/-- Settles O57: `identifySucceeds` by the type that answers and the state of the module, then the end of the exchange. -/
theorem identifyAnswersSetTheModule : Obligations.IdentifyAnswersSetTheModule := by
  unfold Obligations.IdentifyAnswersSetTheModule
  intro address kind revision s m again ty hl ha ht hm
  refine ⟨_, execIdentifyAnswer_taken revision hl ha ht, ?_⟩
  have line := endExchange_line (identifySucceeds s m ty revision) m .identify
  have ends := settledModules_endExchange (identifySucceeds s m ty revision) m .identify
  have zones := endExchange_zones (identifySucceeds s m ty revision) m .identify
  have zone := endExchange_zone (identifySucceeds s m ty revision) m .identify
  generalize finish (endExchange (identifySucceeds s m ty revision) m .identify) = t at line ends zones zone ⊢
  by_cases hty : (s.fieldModule m).configured = ty
  · rw [identifySucceeds_configured revision hm hty] at ends zone
    have settled := settledModules_get (ends.trans (settledModules_moduleIdentified ..)) m
    rw [presentModule, State.modModule_same, storeSensed, State.modModule_same] at settled
    have sensed := FieldModule.of_settled FieldModule.sensed (fun _ _ => rfl) settled
    have revised := FieldModule.of_settled FieldModule.revision (fun _ _ => rfl) settled
    have configured := FieldModule.of_settled FieldModule.configured (fun _ _ => rfl) settled
    have present := FieldModule.of_settled FieldModule.state (fun _ _ => rfl) settled
    have applied := FieldModule.of_settled FieldModule.appliedRoute (fun _ _ => rfl) settled
    refine ⟨sensed, revised, configured, line, fun _ => ⟨present, applied, fun z hz => ?_⟩, fun h => absurd hty h,
      fun h => absurd hty h, fun h => absurd hty h⟩
    have health := moduleIdentified_health (storeSensed s m ty revision) m ty z
    rw [if_pos hz, ← zone z] at health
    obtain ⟨hkind, hservice, hfault, hgen, -⟩ := Zone.health_iff.mp health
    obtain ⟨kind, gen, fault, out, served⟩ := Zone.identified_fields (s.zone z) ty.zoneKind
    exact ⟨hkind.trans kind, hgen.trans gen, hfault.trans fault, fun h => hservice.trans (out h),
      fun h hf => hservice.trans (served h (hfault.symm.trans hf))⟩
  · rcases hm with hm | hm
    · rw [identifySucceeds_other_absent revision hm hty] at ends zone
      have settled := settledModules_get (ends.trans (settledModules_latchNoKinds ..)) m
      have hv : (mismatched s m ty revision).fieldModule m =
          { s.fieldModule m with sensed := ty, revision := some revision, state := .mismatch } := by
        rw [mismatched, moduleNotice, queueReport_fieldModule, State.modModule_same, storeSensed, State.modModule_same]
      have hmodule := FieldModule.eq_of_settled settled (by rw [hv]; simp)
      rw [hv] at hmodule
      refine ⟨by rw [hmodule], by rw [hmodule], by rw [hmodule], line, fun h => absurd h hty, fun _ => by rw [hmodule],
        fun _ _ z hz => ?_, fun _ h => absurd (hm.symm.trans h) (by simp)⟩
      have health := latchNoKinds_health (mismatched s m ty revision) m .typeMismatch z
      rw [if_pos hz, ← zone z] at health
      obtain ⟨kind, service, fault, -, -⟩ := Zone.health_iff.mp health
      exact ⟨kind, fault, fun h => Zone.latch_service_ne _ .typeMismatch (service.symm.trans h)⟩
    · obtain ⟨hu, hzones⟩ := identifySucceeds_other_mismatch revision hm hty
      have settled := settledModules_get ends m
      have hmodule := FieldModule.eq_of_settled settled (by rw [hu]; simp [hm])
      rw [hu] at hmodule
      exact ⟨by rw [hmodule], by rw [hmodule], by rw [hmodule], line, fun h => absurd h hty, fun _ => by rw [hmodule]; exact hm,
        fun _ h => absurd (hm.symm.trans h) (by simp), fun _ _ => zones.trans hzones⟩

/-! ## ROUTE and POLL -/

theorem settingByte_of_enc {x : Byte} {r : Setting} (h : [x] = encSetting r) : x = settingByte r := by
  cases r with
  | none => exact (List.cons.inj h).1
  | some k => exact (List.cons.inj h).1

theorem execRouteAnswer_taken {s : State} {address a b : Byte} {m : ModuleId} {r : Route} {again : Bool}
    (hl : s.flc.line = .exchange m (.route r) again) (ha : address.toNat = m.val) (hx : a = settingByte r.a)
    (hy : b = settingByte r.b) :
    execRouteAnswer address a b s =
      .next (finish (lineArbiter (s.modModule m fun d => { d with appliedRoute := some r }))) := by
  simp [execRouteAnswer, hl, addressed, ha, hx, hy, endExchange]

theorem execPollAnswer_taken {s : State} {address : Byte} {a b : Half} {m : ModuleId} {again : Bool} {x y : ChannelStatus}
    (hl : s.flc.line = .exchange m .poll again) (ha : address.toNat = m.val) (hx : readStatusWord a = some x)
    (hy : readStatusWord b = some y) :
    execPollAnswer address a b s = .next (finish (endExchange (pollSucceeds s m x y) m .poll)) := by
  simp [execPollAnswer, hl, addressed, ha, hx, hy]

/-- A MISSING module that returns is PRESENT, with both settings to be sent, and a beacon module with the outputs too. -/
theorem moduleReturns_effect (s : State) (m : ModuleId) :
    ((moduleReturns s m).fieldModule m).state = .present ∧ (moduleReturns s m).flc.zones = s.flc.zones ∧
      ((moduleReturns s m).fieldModule m).pendingRoute = some { a := settingOf s (zoneA m), b := settingOf s (zoneB m) } ∧
      ((s.fieldModule m).sensed = .beacon → (moduleReturns s m).flc.alert = some (outputWord s)) := by
  let u := moduleNotice (s.modModule m fun d => { d with state := .present }) m
  let v := setPendingRoute u m
  have hu : u.fieldModule m = { s.fieldModule m with state := .present } := State.modModule_same s m _
  have present : (u.fieldModule m).state = .present := by rw [hu]
  have hv : v = u.modModule m fun d =>
      { d with pendingRoute := some { a := settingOf u (zoneA m), b := settingOf u (zoneB m) } } :=
    if_pos present
  have modules : (moduleReturns s m).fieldModule m = v.fieldModule m := by
    show (alertIfBeacon v m).fieldModule m = _
    unfold alertIfBeacon
    split <;> rfl
  have zones : (moduleReturns s m).flc.zones = v.flc.zones := by
    show (alertIfBeacon v m).flc.zones = _
    unfold alertIfBeacon
    split <;> rfl
  refine ⟨?_, ?_, ?_, fun hb => ?_⟩
  · rw [modules, hv, State.modModule_same]; exact present
  · rw [zones, hv]; rfl
  · rw [modules, hv, State.modModule_same]; rfl
  · have beacon : (v.fieldModule m).sensed = .beacon := by rw [hv, State.modModule_same, hu]; exact hb
    show (alertIfBeacon v m).flc.alert = _
    rw [alertIfBeacon, if_pos beacon, hv]
    rfl

/-- Settles O58: each answer is taken by its exchange, a POLL by the state of the module. -/
theorem routeAndPollAnswersAreTaken : Obligations.RouteAndPollAnswersAreTaken := by
  unfold Obligations.RouteAndPollAnswersAreTaken
  refine ⟨fun address a b s m r again hl ha hx hy =>
      execRouteAnswer_taken hl ha (settingByte_of_enc hx) (settingByte_of_enc hy),
    fun address a b s m again x y hl ha hx hy => ?_, fun s z => ⟨fun r => rfl, fun f => rfl⟩⟩
  have taken {u : State} (hu : pollSucceeds s m x y = u) :
      exec (.pollAnswer address a b) s = .next (finish (endExchange u m .poll)) :=
    hu ▸ execPollAnswer_taken hl ha hx hy
  refine ⟨fun hm => taken (by simp [pollSucceeds, hm]),
    fun hm => ⟨taken (by simp [pollSucceeds, hm]), moduleReturns_effect s m⟩, fun hm => taken ?_⟩
  rcases hm with hm | hm <;> simp [pollSucceeds, hm]

end Sys2Proof.Machine
end

section
/-!
PROOFS. The choice of the free line (O60): the pending broadcast, the lowest pending route, the scan and its walk.
-/

namespace Sys2Proof.Machine

/-! ## The line arbiter's choice -/

theorem lineArbiter_alert {s : State} {w : BitVec 16} (h : s.flc.alert = some w) :
    lineArbiter s = { s with flc := { s.flc with alert := none, line := .alert w } } := by
  simp [lineArbiter, h]

/-- A module waits with a route when it is PRESENT and one is pending. -/
theorem routeWaiting_lowest {s : State} {m : ModuleId} (hm : (s.fieldModule m).state = .present)
    (hr : (s.fieldModule m).pendingRoute.isSome)
    (hlow : ∀ n, n < m → ¬ ((s.fieldModule n).state = .present ∧ (s.fieldModule n).pendingRoute ≠ none)) :
    routeWaiting s = some m := by
  refine lowestWhere_eq (by simp [hm, hr]) fun n hn => ?_
  simpa [Option.isSome_iff_ne_none] using hlow n hn

theorem routeWaiting_idle {s : State}
    (h : ∀ m, ¬ ((s.fieldModule m).state = .present ∧ (s.fieldModule m).pendingRoute ≠ none)) : routeWaiting s = none :=
  lowestWhere_none fun m => by simpa [Option.isSome_iff_ne_none] using h m

theorem lineArbiter_route {s : State} {m : ModuleId} {r : Route} (ha : s.flc.alert = none) (hw : routeWaiting s = some m)
    (hr : (s.fieldModule m).pendingRoute = some r) :
    lineArbiter s =
      let t := s.modModule m fun d => { d with pendingRoute := none }
      { t with flc := { t.flc with line := .exchange m (.route r) false } } := by
  simp [lineArbiter, ha, hw, hr]

/-- The scan's exchange with a module, at a value of the counter. -/
def scanSends (s : State) (m : ModuleId) (counter : Nat) (x : Exchange) : State :=
  { s with flc := { s.flc with line := .exchange m x false, scanPos := m, scanCounter := counter } }

theorem lineArbiter_scan {s : State} {m : ModuleId} {counter : Nat} {x : Exchange} (ha : s.flc.alert = none)
    (hw : routeWaiting s = none) (hscan : scanWalk s scanFuel s.flc.scanPos s.flc.scanCounter = some (m, counter, x)) :
    lineArbiter s = scanSends s m counter x := by
  simp [lineArbiter, scanStep, ha, hw, hscan, scanSends]

/-! ## The walk -/

/-- The walk ends where it stands when the module there calls for an exchange. -/
theorem scanWalk_here {s : State} {pos : ModuleId} {counter : Nat} {x : Exchange} (n : Nat)
    (h : scanExchange counter (s.fieldModule pos).state = some x) : scanWalk s (n + 1) pos counter = some (pos, counter, x) := by
  simp [scanWalk, h]

/-- With only ABSENT addresses ahead, the walk of a scan whose counter is not 0 goes on at address 0 with at least sixteen scans
ahead of it. -/
theorem scanWalk_nextScan {s : State} {pos : ModuleId} {counter : Nat} (hc : counter ≠ 0)
    (ha : ∀ n, pos ≤ n → (s.fieldModule n).state = .absent) :
    ∃ n, 384 ≤ n ∧ scanWalk s scanFuel pos counter = scanWalk s n 0 (nextScan counter) := by
  have hp := pos.isLt
  refine ⟨408 - (23 - pos.val) - 1, by omega, ?_⟩
  rw [← scanWalk_wraps s counter hc (23 - pos.val) pos _ (by omega) ha]
  congr 1
  unfold scanFuel
  omega

theorem scanWalk_nextScan_zero {s : State} {pos : ModuleId} {counter : Nat} (hc : 15 ≤ counter)
    (ha : ∀ n, pos ≤ n → (s.fieldModule n).state = .absent) :
    scanWalk s scanFuel pos counter = some (0, 0, scanTakes s 0) := by
  obtain ⟨n, hn, hwalk⟩ := scanWalk_nextScan (show counter ≠ 0 by omega) ha
  obtain ⟨k, rfl⟩ : ∃ k, n = k + 1 := ⟨n - 1, by omega⟩
  rw [hwalk, nextScan, if_neg (by omega), scanWalk_address0]

theorem scanWalk_nextScan_first {s : State} {pos m : ModuleId} {counter : Nat} (h0 : counter ≠ 0) (hc : counter < 15)
    (ha : ∀ n, pos ≤ n → (s.fieldModule n).state = .absent) (hlow : ∀ n, n < m → (s.fieldModule n).state = .absent)
    (hm : (s.fieldModule m).state ≠ .absent) :
    scanWalk s scanFuel pos counter = some (m, counter + 1, scanTakes s m) := by
  obtain ⟨n, hn, hwalk⟩ := scanWalk_nextScan h0 ha
  have hlt := m.isLt
  rw [hwalk, nextScan, if_pos hc]
  exact scanWalk_first s n 0 _ m (by omega) (Fin.zero_le m) (fun q _ => hlow q) hm (by omega)

theorem scanWalk_nextScan_absent {s : State} {pos : ModuleId} {counter : Nat} (h0 : counter ≠ 0)
    (ha : ∀ n, (s.fieldModule n).state = .absent) :
    scanWalk s scanFuel pos counter = some (0, 0, scanTakes s 0) := by
  rcases Nat.lt_or_ge counter 15 with hc | hc
  · obtain ⟨n, hn, hwalk⟩ := scanWalk_nextScan h0 fun q (_ : pos ≤ q) => ha q
    rw [hwalk, nextScan, if_pos hc]
    exact scanWalk_all_absent s ha (15 - counter) n _ (by omega) (by omega) (by omega) (by omega)
  · exact scanWalk_nextScan_zero hc fun q _ => ha q

/-! ## The commands that free the line -/

/-- The end of an ALERT frame and the end of the wait after a warm restart are the line arbiter's choice. -/
theorem freeLine_exec {c : Instr} {s : State}
    (h : (c = .alertSent ∧ ∃ w, s.flc.line = .alert w) ∨ (c = .fieldLineRestartHoldoff ∧ s.flc.line = .holdoff)) :
    exec c s = .next (finish (lineArbiter s)) := by
  rcases h with ⟨rfl, w, hl⟩ | ⟨rfl, hl⟩
  · simp [exec, execAlertSent, hl]
  · simp [exec, execFieldLineRestartHoldoff, hl]

/-- Settles O60: the arbiter's choice in its order, and the walk of the scan by the modules ahead of its position. -/
theorem theFreeLineTakesItsNextExchange : Obligations.TheFreeLineTakesItsNextExchange := by
  unfold Obligations.TheFreeLineTakesItsNextExchange
  intro c s hc
  have chosen {t : State} (ht : lineArbiter s = t) : exec c s = .next (finish t) := ht ▸ freeLine_exec hc
  refine ⟨fun w hw => chosen (lineArbiter_alert hw), fun m r ha hm hr hlow => ?_, fun ha hnone => ?_⟩
  · have choice := lineArbiter_route ha (routeWaiting_lowest hm (by simp [hr]) hlow) hr
    refine ⟨_, chosen choice, by rw [finish_flc], ?_, fun n hn => ?_, by rw [finish_flc]; rfl, by rw [finish_flc]; rfl,
      by rw [finish_flc]; rfl⟩
    · rw [finish_fieldModule]; exact State.modModule_same s m _
    · rw [finish_fieldModule]; exact State.modModule_ne s _ hn
  · have scans {m : ModuleId} {counter : Nat} {x : Exchange}
        (h : scanWalk s scanFuel s.flc.scanPos s.flc.scanCounter = some (m, counter, x)) :
        exec c s = .next (finish (scanSends s m counter x)) := chosen (lineArbiter_scan ha (routeWaiting_idle hnone) h)
    refine ⟨fun hm => scans (scanWalk_here 407 ?_), fun hm => scans (scanWalk_here 407 ?_), fun h0 =>
      ⟨fun m hle habsent hm => scans ?_, fun habsent =>
        ⟨fun h15 => scans ?_, fun m h15 hlow hm => scans ?_, fun hall => scans ?_⟩⟩⟩
    · rcases hm with hm | hm <;> rw [hm] <;> rfl
    · rcases hm with hm | ⟨hm, h0⟩
      · rw [hm]; rfl
      · rw [hm, h0]; rfl
    · exact scanWalk_first s _ _ _ m h0 hle habsent hm (by have := m.isLt; unfold scanFuel; omega)
    · exact scanWalk_nextScan_zero h15 habsent
    · exact scanWalk_nextScan_first h0 h15 habsent hlow hm
    · exact scanWalk_nextScan_absent h0 hall

end Sys2Proof.Machine
end

section
/-!
PROOFS. What every command leaves of the link, the tables and the queue: the rules for the part of a command before its reply and its
end (`Steady`), and for a whole command (`Orderly`).
-/

namespace Sys2Proof.Machine

/-! ## The tables, block by block -/

/-- The configured fields lie in five blocks, and of the modules they hold the configured type alone. -/
theorem tables_of_blocks {s t : State} (hsct : t.sct = s.sct) (hde : t.de = s.de) (hppu : t.ppu = s.ppu)
    (hpdir : t.pdir = s.pdir) (hag : t.ag = s.ag) (hm : ∀ m, (t.fieldModule m).configured = (s.fieldModule m).configured) :
    tables t = tables s := by
  have types : mapTable FieldModule.configured t.flc.modules = mapTable FieldModule.configured s.flc.modules := by
    apply Vector.ext
    intro k hk
    exact (mapTable_get _ t.flc.modules ⟨k, hk⟩).trans ((hm ⟨k, hk⟩).trans (mapTable_get _ s.flc.modules ⟨k, hk⟩).symm)
  simp only [tables, imageOf, hsct, hde, hppu, hpdir, hag]
  exact congrArg (fun v => ({ types := v, .. : Image })) types

/-- A change of a module keeps the tables when it keeps the configured type. -/
theorem tables_modModule (s : State) (m : ModuleId) {f : FieldModule → FieldModule} (hf : ∀ d, (f d).configured = d.configured) :
    tables (s.modModule m f) = tables s :=
  tables_of_blocks rfl rfl rfl rfl rfl fun j => by
    rw [State.modModule_apply]
    split
    · rename_i h; rw [hf, h]
    · rfl

/-! ## Steady changes -/

/-- The change from `s` to `t` is one that a command makes before its reply and its end: the queue stands, the reply list does not
grow, the report queue stays within its limit, and the tables stand unless the command configures. -/
structure Steady (configures : Bool) (s t : State) : Prop where
  pending : t.pending = s.pending
  tables : configures = false → tables t = tables s
  replies : t.cl.replies.length ≤ s.cl.replies.length
  reports : s.cl.reports.length ≤ Config.reportLimit → t.cl.reports.length ≤ Config.reportLimit

theorem Quiet.steady {b : Bool} {s t : State} (h : Quiet s t) : Steady b s t :=
  ⟨h.pending, fun _ => h.tables, Nat.le_of_eq (by rw [h.link]), h.reports⟩

namespace Steady

variable {b : Bool} {s t u : State}

theorem refl (s : State) : Steady b s s := ⟨rfl, fun _ => rfl, Nat.le_refl _, id⟩

theorem trans (h : Steady b s t) (k : Steady b t u) : Steady b s u :=
  ⟨k.pending.trans h.pending, fun e => (k.tables e).trans (h.tables e), k.replies.trans h.replies, k.reports ∘ h.reports⟩

/-- A change that leaves the link, the queue and the tables alone. -/
theorem of_tables (hp : t.pending = s.pending := by rfl) (hl : t.cl = s.cl := by rfl)
    (ht : Machine.tables t = Machine.tables s := by rfl) : Steady b s t :=
  ⟨hp, fun _ => ht, Nat.le_of_eq (by rw [hl]), fun h => by rw [hl]; exact h⟩

/-- A configuration request's own write. -/
theorem write (hp : t.pending = s.pending := by rfl) (hl : t.cl = s.cl := by rfl) : Steady true s t :=
  ⟨hp, (nomatch ·), Nat.le_of_eq (by rw [hl]), fun h => by rw [hl]; exact h⟩

theorem modZone (s : State) (z : ZoneId) (f : Zone → Zone) : Steady b s (s.modZone z f) := .of_tables

theorem modModule (s : State) (m : ModuleId) (f : FieldModule → FieldModule)
    (hf : ∀ d, (f d).configured = d.configured := by intro _; rfl) : Steady b s (s.modModule m f) :=
  .of_tables (ht := tables_modModule s m hf)

theorem report (s : State) (r : Report) : Steady b s (queueReport s r) := (Quiet.report s r).steady

/-- The framer's own state is no part of what commands keep. -/
theorem framer (s : State) (f : Framer) : Steady b s (s.modCl fun c => { c with framer := f }) :=
  ⟨rfl, fun _ => rfl, Nat.le_refl _, id⟩

/-- A reply made READY stays in its place. -/
theorem makeReady (h : Steady b s t) (c : Code) (f : List Byte) : Steady b s (makeReady t c f) :=
  ⟨h.pending, h.tables, by simpa [Machine.makeReady, State.modCl] using h.replies, h.reports⟩

theorem lineArbiter (h : Steady b s t) : Steady b s (lineArbiter t) :=
  have only := lineArbiter_only t
  h.trans (.of_tables only.pending only.cl
    (tables_of_blocks only.sct only.de only.ppu only.pdir only.ag fun m => congrArg Prod.fst (only.modules m).1))

end Steady

/-! ## Whole commands -/

/-- The change from `s` to `t` is one that a whole command makes: the queue stands, the tables stand unless the command configures,
the link stays within its limits, and an IDLE transmitter is left with nothing to send. -/
structure Orderly (configures : Bool) (s t : State) : Prop where
  pending : t.pending = s.pending
  tables : configures = false → tables t = tables s
  capacity : LinkWithinCapacity s → LinkWithinCapacity t
  serves : TransmitterServesQueues s → TransmitterServesQueues t

theorem Orderly.refl {b : Bool} (s : State) : Orderly b s s := ⟨rfl, fun _ => rfl, id, id⟩

theorem tables_finish (s : State) : tables (finish s) = tables s := by rw [finish_link]; rfl

theorem Steady.finish {b : Bool} {s t : State} (h : Steady b s t) : Orderly b s (finish t) where
  pending := (finish_pending t).trans h.pending
  tables e := (tables_finish t).trans (h.tables e)
  capacity hs := finish_within t ⟨h.replies.trans hs.1, h.reports hs.2⟩
  serves _ := finish_serves t

/-- A frame is checked only while the reply list has room. -/
theorem replies_lt_of_checked {s : State} (h : intake s = .checked) : s.cl.replies.length < Config.replyLimit := by
  unfold intake at h
  split at h
  · contradiction
  · split at h
    · contradiction
    · split at h
      · contradiction
      · omega

/-- A reply is placed where the frame check found room for it. -/
theorem Steady.replied {b : Bool} {s t : State} (h : Steady b s t) (hroom : s.cl.replies.length < Config.replyLimit)
    (kind tag : Byte) (w : Bool) (c : Code) (f : List Byte) : Orderly b s (Machine.finish (placeReply t kind tag w c f)) where
  pending := (finish_pending _).trans h.pending
  tables e := (tables_finish _).trans (h.tables e)
  capacity hs := finish_within _ ⟨by
    have hlen : (placeReply t kind tag w c f).cl.replies.length = t.cl.replies.length + 1 := by simp [placeReply, State.modCl]
    rw [hlen]
    exact Nat.succ_le_of_lt (Nat.lt_of_le_of_lt h.replies hroom), h.reports hs.2⟩
  serves _ := finish_serves _

/-! ## Requests -/

/-- An owner's answer to `s` is steady: a refusal always is. -/
inductive AnswerSteady (configures : Bool) (s : State) : Answer → Prop where
  | refuse (c : Code) : AnswerSteady configures s (.refuse c)
  | ok {t : State} (fields : List Byte) (h : Steady configures s t) : AnswerSteady configures s (.ok t fields)
  | wait {t : State} (h : Steady configures s t) : AnswerSteady configures s (.wait t)

theorem AnswerSteady.quiet {b : Bool} {s t : State} (fields : List Byte) (h : Quiet s t) : AnswerSteady b s (.ok t fields) :=
  .ok _ h.steady

/-- An owner answers every state steadily. -/
def OwnerSteady (configures : Bool) (owner : State → Answer) : Prop := ∀ s, AnswerSteady configures s (owner s)

/-- The reply to a checked request finds room, whatever its owner answers. -/
theorem answer_orderly {b : Bool} {s : State} {kind tag : Byte} {a : Answer} (hroom : s.cl.replies.length < Config.replyLimit)
    (ha : AnswerSteady b (framerHunt s) a) : Orderly b s (finish (answer (framerHunt s) kind tag a)) := by
  have hunt : Steady b s (framerHunt s) := .framer s .hunt
  cases ha with
  | refuse c => exact hunt.replied hroom ..
  | ok fields h => exact (hunt.trans h).replied hroom ..
  | wait h => exact (hunt.trans h).replied hroom ..

/-- A request is orderly when its owner is steady. -/
theorem request_orderly {b : Bool} {s : State} {kind : Byte} {lengths : List Nat} {h : Header} {owner : State → Answer}
    (ho : OwnerSteady b owner) : Orderly b s (request s kind lengths h owner) := by
  unfold request
  split
  · exact .refl s
  · exact ((Steady.framer s .hunt).trans (.report ..)).finish
  · rename_i hi
    have room := replies_lt_of_checked (intake_of_checked hi)
    split
    · exact answer_orderly room (ho _)
    · exact answer_orderly room (.refuse _)

/-! ## Results -/

/-- The command answers a next state, which it reaches in an orderly way. -/
def Completes (configures : Bool) (s : State) (r : Result) : Prop := ∃ t, r = .next t ∧ Orderly configures s t

namespace Completes

variable {b : Bool} {s t : State}

theorem next (h : Orderly b s t) : Completes b s (.next t) := ⟨t, rfl, h⟩

theorem still (s : State) : Completes b s (.next s) := .next (.refl s)

theorem request {kind : Byte} {lengths : List Nat} {h : Header} {owner : State → Answer} (ho : OwnerSteady b owner) :
    Completes b s (.next (request s kind lengths h owner)) := .next (request_orderly ho)

/-- An expiry that makes one quiet change when its condition holds, and nothing otherwise. -/
theorem when (p : Prop) [Decidable p] (h : Quiet s t) : Completes b s (.next (if p then finish t else s)) := by
  refine .next ?_
  split
  · exact h.steady.finish
  · exact .refl s

end Completes

end Sys2Proof.Machine
end

section
/-!
PROOFS. The owners of the requests are steady: each leaves the queue and the reply list alone, and only those that configure write
the tables.
-/

namespace Sys2Proof.Machine

open Quiet

/-! ## The operations of the field line -/

section Field

variable {b : Bool}

theorem changeZone_steady (s : State) (z : ZoneId) (d : Zone) : Steady b s (changeZone s z d) := by
  unfold changeZone
  extract_lets old t u
  have hu : Steady b s u := by
    show Steady b s (if _ then _ else _)
    split
    · exact .modZone ..
    · exact (Steady.modZone ..).trans (.report ..)
  clear_value u
  split
  · exact hu.trans (zoneLost_quiet u z).steady
  · exact hu

theorem latchFaults_steady (s : State) (y z : ZoneId) (f : FaultKind) : Steady b s (latchFault (latchFault s y f) z f) :=
  (changeZone_steady ..).trans (changeZone_steady ..)

theorem latchNoKinds_steady (s : State) (y z : ZoneId) (f : FaultKind) : Steady b s (latchNoKind (latchNoKind s y f) z f) :=
  (changeZone_steady ..).trans (changeZone_steady ..)

/-- A zone's new record with its notice, and what its return makes of the pages and the routes. -/
theorem zoneReturned_steady (s : State) (z : ZoneId) (f : Zone → Zone) :
    Steady b s (setPendingRoute (zoneReturned (zoneNotice (s.modZone z f) z) z) (moduleOf z)) :=
  (Steady.modZone ..).trans ((Steady.report ..).trans ((zoneReturned_quiet ..).trans (setPendingRoute_quiet ..)).steady)

theorem zoneOn_steady (s : State) (z : ZoneId) : Steady b s (zoneOn s z) := by
  unfold zoneOn
  split
  · exact (Steady.modZone ..).trans (.report ..)
  · dsimp only
    split
    · exact (Steady.modZone ..).trans (.report ..)
    · exact zoneReturned_steady ..

end Field

/-! ## Configuration requests -/

theorem stationSetOwner_steady {x c p v k l} : OwnerSteady true (stationSetOwner x c p v k l) := by
  intro s
  unfold stationSetOwner
  repeat' split
  any_goals exact .refuse _
  exact .ok _ ((Steady.write).trans (moveRing_quiet ..).steady)

theorem memberAddOwner_steady {g x w i j} : OwnerSteady true (memberAddOwner g x w i j) := by
  intro s
  have added (g x w pos pref) : Steady true s (addMember s g x w pos pref) := .write
  unfold memberAddOwner
  repeat' split
  any_goals exact .refuse _
  · exact .ok _ ((added ..).trans (offer_quiet ..).steady)
  · exact .ok _ (added ..)

theorem removeMember_steady (s : State) (g : GroupId) (x : StationId) : Steady true s (removeMember s g x) := by
  have dropped (t : State) : Steady true t (dropMember t g x) := .write
  unfold removeMember
  split
  · exact (ringLeave_quiet ..).steady.trans ((dropped _).trans ((leaveWithoutTried_quiet ..).trans (offer_quiet ..)).steady)
  · exact (dropped s).trans (offer_quiet ..).steady

theorem memberRemoveOwner_steady {g x} : OwnerSteady true (memberRemoveOwner g x) := by
  intro s
  unfold memberRemoveOwner
  repeat' split
  any_goals exact .refuse _
  exact .ok _ (removeMember_steady ..)

/-- The stored parameters are configured; what becomes of a lit beacon is quiet (R74). -/
theorem storeBeacon_steady (s : State) (g : GroupId) (p : BeaconParams) : Steady true s (storeBeacon s g p) := by
  unfold storeBeacon
  extract_lets old t
  have stored : Steady true s t := .write
  clear_value t
  refine stored.trans (Quiet.steady ?_)
  split
  · split
    · split
      · exact beaconOn_quiet ..
      · exact .rfl' t
    · exact .rfl' t
  · split
    · exact (modBeacon_quiet ..).trans ((dropClaim_quiet ..).trans (refollowOpt_quiet ..))
    · have moved : Quiet t (if p.channel = old.channel then t
          else dropClaim (placeClaim t p.channel .group) old.channel .group) := by
        split
        · exact .rfl' t
        · exact (placeClaim_quiet ..).trans (dropClaim_quiet ..)
      exact moved.trans (refollowPair_quiet ..)

theorem beaconSetOwner_steady {g z k d} : OwnerSteady true (beaconSetOwner g z k d) := by
  intro s
  unfold beaconSetOwner
  repeat' split
  any_goals exact .refuse _
  exact .ok _ (storeBeacon_steady ..)

theorem changeChannel_link (s : State) (k : ChannelId) (f : Channel → Channel) :
    (changeChannel s k f).pending = s.pending ∧ (changeChannel s k f).cl = s.cl := by
  unfold changeChannel
  dsimp only
  split <;> exact ⟨rfl, rfl⟩

theorem cadenceSetOwner_steady {k v p n} : OwnerSteady true (cadenceSetOwner k v p n) := by
  intro s
  unfold cadenceSetOwner
  repeat' split
  any_goals exact .refuse _
  exact .ok _ (.write (changeChannel_link ..).1 (changeChannel_link ..).2)

theorem storeModule_steady (s : State) (m : ModuleId) (t : ModuleType) : Steady true s (storeModule s m t) := by
  have typed : Steady true s (s.modModule m fun d => { d with configured := t }) := .write
  unfold storeModule
  dsimp only
  split
  · exact typed
  · exact typed
  · exact typed.trans ((Steady.modModule ..).trans ((Steady.report ..).trans (latchNoKinds_steady ..)))

theorem moduleSetOwner_steady {m t} : OwnerSteady true (moduleSetOwner m t) := by
  intro s
  unfold moduleSetOwner
  repeat' split
  any_goals exact .refuse _
  · exact .ok _ (.refl s)
  · exact .ok _ (storeModule_steady ..)

theorem switchMode_steady (s : State) (g : GroupId) (m : ServiceState) : Steady true s (switchMode s g m) := by
  unfold switchMode
  extract_lets t
  have ht : Steady true s t := .write
  clear_value t
  split
  · exact .refl s
  · split
    · exact ht.trans (switchInService_quiet ..).steady
    · exact ht.trans (switchNight_quiet ..).steady
    · exact ht
    · exact ht

theorem groupModeOwner_steady {g m} : OwnerSteady true (groupModeOwner g m) := by
  intro s
  unfold groupModeOwner
  repeat' split
  any_goals exact .refuse _
  exact .ok _ (switchMode_steady ..)

/-! ## Station events -/

/-- What the rule of a station event makes of `s` is steady: a refusal always is. -/
inductive EventSteady (configures : Bool) (s : State) : Except Code EventDone → Prop where
  | error (c : Code) : EventSteady configures s (.error c)
  | ok {t : State} {answered : Option CallId} (h : Steady configures s t) :
      EventSteady configures s (.ok { state := t, answered := answered })

theorem EventSteady.of_ok {b : Bool} {s : State} {a : Except Code EventDone} {r : EventDone} (h : EventSteady b s a)
    (e : a = .ok r) : Steady b s r.state := by
  subst e; cases h; assumption

/-- A STATION EVENT is steady when the rule of its event is. -/
theorem stationEventOwner_steady {b : Bool} {x e} {act : State → StationId → Except Code EventDone}
    (ha : ∀ s x, EventSteady b s (act s x)) : OwnerSteady b (stationEventOwner x e act) := by
  intro s
  unfold stationEventOwner
  repeat' split
  any_goals exact .refuse _
  rename_i hr
  exact .ok _ ((ha ..).of_ok hr)

theorem offHookAct_steady {b : Bool} (s : State) (x : StationId) : EventSteady b s (offHookAct s x) := by
  unfold offHookAct
  split
  · exact .ok (answerCall_quiet ..).steady
  · exact .ok (Quiet.modStation _ _ _ fun _ => by rfl).steady
  · exact .ok (Quiet.modStation _ _ _ fun _ => by rfl).steady
  · exact .error _

theorem onHookAct_steady {b : Bool} (s : State) (x : StationId) : EventSteady b s (onHookAct s x) := by
  unfold onHookAct
  split
  · exact .ok (freeCall_quiet ..).steady
  · exact .ok ((enterIdle_quiet ..).trans ((endVoicePage_quiet ..).trans (offer_quiet ..))).steady
  · exact .error _

theorem serviceOffAct_steady {b : Bool} (s : State) (x : StationId) : EventSteady b s (serviceOffAct s x) := by
  unfold serviceOffAct
  split
  · exact .error _
  · exact .ok ((serviceOffRinging_quiet ..).trans (goOut_quiet ..)).steady
  · exact .ok ((freeCall_quiet ..).trans (goOut_quiet ..)).steady
  · exact .ok ((endVoicePage_quiet ..).trans (goOut_quiet ..)).steady
  · exact .ok (goOut_quiet ..).steady

theorem serviceOnAct_steady {b : Bool} (s : State) (x : StationId) : EventSteady b s (serviceOnAct s x) := by
  unfold serviceOnAct
  split
  · exact .ok ((enterIdle_quiet ..).trans (offer_quiet ..)).steady
  · exact .error _

/-- Do-not-disturb is a configured field (R180). -/
theorem dndOnAct_steady (s : State) (x : StationId) : EventSteady true s (dndOnAct s x) := .ok .write

theorem dndOffAct_steady (s : State) (x : StationId) : EventSteady true s (dndOffAct s x) := by
  unfold dndOffAct
  split
  · exact .ok ((Steady.write).trans (offer_quiet ..).steady)
  · exact .ok (.refl s)

/-! ## The other operational requests -/

section Operational

variable {b : Bool}

theorem callOfferOwner_steady {k t p r} : OwnerSteady b (callOfferOwner k t p r) := by
  intro s
  have taken (c k g p r) : Steady b s (takeRecord s c k g p r) := .of_tables
  unfold callOfferOwner
  repeat' split
  any_goals exact .refuse _
  · exact .ok _ ((taken ..).trans (arrive_quiet ..).steady)
  · exact .ok _ ((taken ..).trans (ringDirect_quiet ..).steady)

theorem callGoneOwner_steady {c g} : OwnerSteady b (callGoneOwner c g) := by
  intro s
  unfold callGoneOwner
  repeat' split
  any_goals exact .refuse _
  exact .quiet _ (freeCall_quiet ..)

theorem memberLoginOwner_steady {x g} : OwnerSteady b (memberLoginOwner x g) := by
  intro s
  unfold memberLoginOwner
  split
  · exact .refuse _
  · refine .quiet _ ?_
    split
    · exact setLogin_quiet ..
    · exact (setLogin_quiet ..).trans (offer_quiet ..)

theorem memberLogoutOwner_steady {x g} : OwnerSteady b (memberLogoutOwner x g) := by
  intro s
  unfold memberLogoutOwner
  split
  · exact .refuse _
  · exact .quiet _ ((setLogin_quiet ..).trans (logoutRing_quiet ..))

theorem parkOwner_steady {x o a d e} : OwnerSteady b (parkOwner x o a d e) := by
  intro s
  unfold parkOwner
  repeat' split
  any_goals exact .refuse _
  · exact .quiet _ ((parkCall_quiet ..).trans (announcePark_quiet ..))
  · exact .quiet _ (parkCall_quiet ..)

theorem pageOwner_steady {q d e n} : OwnerSteady b (pageOwner q d e n) := by
  intro s
  unfold pageOwner
  repeat' split
  any_goals exact .refuse _
  rename_i hr
  exact .quiet _ (pageAttempt_quiet hr)

theorem pageEndOwner_steady {p g q} : OwnerSteady b (pageEndOwner p g q) := by
  intro s
  unfold pageEndOwner
  repeat' split
  any_goals exact .refuse _
  exact .quiet _ (endPage_quiet ..)

theorem summonOwner_steady {q g} : OwnerSteady b (summonOwner q g) := by
  intro s
  unfold summonOwner
  split
  · exact .refuse _
  · exact .quiet _ (summonGroup_quiet ..)

theorem summonHushOwner_steady {q g} : OwnerSteady b (summonHushOwner q g) := by
  intro s
  unfold summonHushOwner
  split
  · exact .refuse _
  · exact .quiet _ (hushGroup_quiet ..)

theorem zoneRestoreOwner_steady {z g} : OwnerSteady b (zoneRestoreOwner z g) := by
  intro s
  unfold zoneRestoreOwner
  repeat' split
  any_goals exact .refuse _
  exact .ok _ (zoneReturned_steady ..)

theorem zoneServiceOwner_steady {z v} : OwnerSteady b (zoneServiceOwner z v) := by
  intro s
  unfold zoneServiceOwner
  dsimp only
  repeat' split
  any_goals exact .refuse _
  · exact .ok _ (zoneOn_steady ..)
  · exact .ok _ (changeZone_steady ..)

/-! ## The requests of the Control Link and the store, and the queries -/

/-- The abandoned save's reply becomes READY in its place (R182). -/
theorem abandonSave_steady (s : State) : Steady b s (abandonSave s) := by
  unfold abandonSave
  split
  · exact Steady.makeReady .of_tables ..
  · exact .refl s

theorem restartOwner_steady : OwnerSteady b restartOwner := fun s =>
  have decoded : Steady b s (s.modCl fun c => { c with restart := .decoded }) := ⟨rfl, fun _ => rfl, Nat.le_refl _, id⟩
  .ok _ (decoded.trans (abandonSave_steady _))

theorem storeSaveOwner_steady : OwnerSteady b storeSaveOwner := by
  intro s
  unfold storeSaveOwner
  split
  · exact .refuse _
  · exact .wait .of_tables

theorem startOwner_steady : OwnerSteady b startOwner := by
  intro s
  unfold startOwner
  split
  · exact .refuse _
  · exact .ok _ ⟨rfl, fun _ => rfl, Nat.le_refl _, id⟩

/-- A query that clears a referenced flag keeps the page group's configured fields (R110). -/
theorem pageGroupQueryOwner_steady {g} : OwnerSteady b (pageGroupQueryOwner g) := by
  intro s
  unfold pageGroupQueryOwner
  split
  · exact .refuse _
  · exact .quiet _ (Quiet.modPageGroup _ _ _ fun _ => rfl)

end Operational

end Sys2Proof.Machine
end

section
/-!
PROOFS. Every command answers a next state in an orderly way: its own events first, then the settled statements O14, O18 and O2.
-/

namespace Sys2Proof.Machine

section Events

variable {b : Bool}

/-! ## The field line's exchanges -/

theorem clearMismatch_steady (s : State) (z : ZoneId) : Steady b s (clearMismatch s z) := by
  unfold clearMismatch
  dsimp only
  split
  · exact (Steady.modZone ..).trans (.report ..)
  · exact .refl s

theorem exchangeFailed_steady (s : State) (m : ModuleId) : Steady b s (exchangeFailed s m) := by
  unfold exchangeFailed
  split
  · exact (Steady.modModule ..).trans ((Steady.report ..).trans (latchFaults_steady ..))
  · split
    · exact (Steady.modModule ..).trans ((Steady.report ..).trans
        ((clearMismatch_steady ..).trans (clearMismatch_steady ..)))
    · exact .refl s
  · exact .refl s
  · exact .refl s

theorem endExchange_steady {s t : State} (m : ModuleId) (x : Exchange) (h : Steady b s t) : Steady b s (endExchange t m x) := by
  unfold endExchange
  split
  · exact h.lineArbiter
  · exact (h.trans .of_tables).lineArbiter

/-- A first failure repeats the frame, a second ends the exchange and the event. -/
theorem attemptFails_orderly (s : State) : Orderly b s (attemptFails s) := by
  unfold attemptFails
  split
  · exact ⟨rfl, fun _ => rfl, id, id⟩
  · exact (endExchange_steady _ _ (exchangeFailed_steady ..)).finish
  · exact .refl s

theorem announceZone_steady (old : Zone) (s : State) (z : ZoneId) : Steady b s (announceZone old s z) := by
  unfold announceZone
  dsimp only
  split
  · exact .refl s
  · split
    · exact (Steady.report ..).trans (zoneReturned_quiet ..).steady
    · exact .report ..

theorem moduleIdentified_steady (s : State) (m : ModuleId) (t : ModuleType) : Steady b s (moduleIdentified s m t) := by
  unfold moduleIdentified
  extract_lets oldA oldB s1 s2 s3 s4
  have present : Steady b s s1 := .modModule ..
  have kinds : Steady b s1 s3 := (Steady.modZone ..).trans (.modZone ..)
  have noticed : Steady b s3 s4 := (alertIfBeacon_quiet s3 m).steady.trans (.report ..)
  exact present.trans (kinds.trans (noticed.trans ((announceZone_steady ..).trans (announceZone_steady ..))))

theorem identifySucceeds_steady (s : State) (m : ModuleId) (t : ModuleType) (r : Byte) :
    Steady b s (identifySucceeds s m t r) := by
  have stored : Steady b s (s.modModule m fun d => { d with sensed := t, revision := some r }) := .modModule ..
  unfold identifySucceeds
  dsimp only
  split
  · split
    · exact stored.trans (moduleIdentified_steady ..)
    · exact stored.trans ((Steady.modModule ..).trans ((Steady.report ..).trans (latchNoKinds_steady ..)))
  · split
    · exact stored.trans (moduleIdentified_steady ..)
    · split
      · exact .refl s
      · exact stored.trans (.report ..)
  · exact .refl s
  · exact .refl s

theorem takeStatus_steady (s : State) (z : ZoneId) (c : ChannelStatus) : Steady b s (takeStatus s z c) := by
  cases c with
  | load r => exact .modZone ..
  | fault f => exact changeZone_steady ..

theorem moduleReturns_steady (s : State) (m : ModuleId) : Steady b s (moduleReturns s m) :=
  (Steady.modModule ..).trans ((Steady.report ..).trans
    ((setPendingRoute_quiet _ m).trans (alertIfBeacon_quiet _ m)).steady)

theorem pollSucceeds_steady (s : State) (m : ModuleId) (x y : ChannelStatus) : Steady b s (pollSucceeds s m x y) := by
  unfold pollSucceeds
  split
  · exact (takeStatus_steady ..).trans (takeStatus_steady ..)
  · exact (moduleReturns_steady ..).trans ((takeStatus_steady ..).trans (takeStatus_steady ..))
  · exact .refl s
  · exact .refl s

theorem execIdentifyAnswer_completes (a k r : Byte) (s : State) : Completes b s (execIdentifyAnswer a k r s) := by
  refine .next ?_
  split
  · split
    · exact (endExchange_steady _ _ (identifySucceeds_steady ..)).finish
    · exact attemptFails_orderly s
  · exact attemptFails_orderly s

theorem execRouteAnswer_completes (a x y : Byte) (s : State) : Completes b s (execRouteAnswer a x y s) := by
  refine .next ?_
  split
  · split
    · exact (endExchange_steady _ _ (.modModule ..)).finish
    · exact attemptFails_orderly s
  · exact attemptFails_orderly s

theorem execPollAnswer_completes (a : Byte) (x y : Half) (s : State) : Completes b s (execPollAnswer a x y s) := by
  refine .next ?_
  split
  · split
    · exact (endExchange_steady _ _ (pollSucceeds_steady ..)).finish
    · exact attemptFails_orderly s
  · exact attemptFails_orderly s

theorem execAlertSent_completes (s : State) : Completes b s (execAlertSent s) := by
  refine .next ?_
  split
  · exact (Steady.refl s).lineArbiter.finish
  · exact .refl s

theorem execFieldLineRestartHoldoff_completes (s : State) : Completes b s (execFieldLineRestartHoldoff s) := by
  refine .next ?_
  split
  · exact (Steady.refl s).lineArbiter.finish
  · exact .refl s

/-! ## The Control Link, the store and the starts -/

/-- A LINK ERROR, after the framer has taken its next state. -/
theorem linkError_orderly (s : State) (f : Framer) (cause : LinkCause) (bytes : List Byte) :
    Orderly b s (finish (linkErrorBytes (s.modCl fun c => { c with framer := f }) cause bytes)) :=
  ((Steady.framer s f).trans (.report ..)).finish

theorem execFrameSumError_completes (f : List Byte) (s : State) : Completes b s (execFrameSumError f s) := by
  refine .next ?_
  split
  · exact .refl s
  · exact linkError_orderly ..
  · exact linkError_orderly ..

theorem execFrameOverrun_completes (f : List Byte) (s : State) : Completes b s (execFrameOverrun f s) := by
  refine .next ?_
  split
  · exact linkError_orderly ..
  · exact .refl s

theorem execFrameGap_completes (bs : List Byte) (x : Byte) (s : State) : Completes b s (execFrameGap bs x s) := by
  refine .next ?_
  split
  · split
    · exact ⟨rfl, fun _ => rfl, id, id⟩
    · exact linkError_orderly ..
  · exact .refl s

theorem execFrameLengthError_completes (k n : Byte) (s : State) : Completes b s (execFrameLengthError k n s) := by
  refine .next ?_
  split
  · exact linkError_orderly ..
  · exact .refl s

theorem execFramerSilence_completes (s : State) : Completes b s (execFramerSilence s) := by
  refine .next ?_
  split
  · exact ⟨rfl, fun _ => rfl, id, id⟩
  · exact .refl s

/-- After the RESTART reply the transmitter is left IDLE, with the warm restart next; otherwise it chooses. -/
theorem execTransmitFrameEnd_completes (s : State) : Completes b s (execTransmitFrameEnd s) := by
  have same := chooseFrame_link s
  refine .next ?_
  split
  · exact .refl s
  · split
    · exact ⟨rfl, fun _ => rfl, id, fun _ _ h => absurd rfl h⟩
    · refine ⟨by rw [same]; rfl, fun _ => by rw [same]; rfl, fun hs => ?_, fun _ => chooseFrame_serves s⟩
      obtain ⟨hreplies, hreports⟩ := chooseFrame_lists s
      exact ⟨hreplies.trans hs.1, hreports.trans hs.2⟩

theorem execSaveCompletion_completes (a : Bool) (s : State) : Completes b s (execSaveCompletion a s) := by
  refine .next ?_
  split
  · split
    · refine Steady.finish ?_
      split
      · exact Steady.makeReady .of_tables ..
      · exact Steady.makeReady .of_tables ..
    · exact .refl s
  · exact .refl s

theorem execStatus_completes (h : Header) (s : State) : Completes b s (execStatus h s) := by
  have requested : Orderly b s (request s 0x20 [0] h statusOwner) := request_orderly fun s => .ok _ (.refl s)
  refine .next ?_
  split
  · exact ⟨requested.pending, requested.tables, requested.capacity, requested.serves⟩
  · exact requested

theorem execWarmRestart_completes (s : State) : Completes b s (execWarmRestart s) := by
  refine .next ?_
  split
  · refine ⟨finish_pending _, fun _ => warmRestart_tables s, fun _ => ?_, fun _ => finish_serves _⟩
    simp [LinkWithinCapacity, warmRestart_cl, Cl.started]
  · exact .refl s

/-- After a cold reset both lists are empty, and the transmitter sends STARTED. -/
theorem coldState_orderly (s : State) (cause : StartCause) : Orderly true s (coldState s cause) :=
  ⟨rfl, (nomatch ·), fun _ => ⟨Nat.zero_le _, Nat.zero_le _⟩, fun _ h => nomatch h⟩

/-! ## Expiries -/

theorem execCoverageExpiry_completes (c : CallId) (s : State) : Completes b s (execCoverageExpiry c s) := by
  refine .next ?_
  split
  · split
    · exact (coverageStep_quiet ..).steady.finish
    · exact .refl s
  · exact .refl s

theorem execNoAnswerExpiry_completes (c : CallId) (s : State) : Completes b s (execNoAnswerExpiry c s) := by
  refine .next ?_
  split
  · split
    · exact .refl s
    · exact (noAnswer_quiet ..).steady.finish
  · exact .refl s

theorem execRingAllExpiry_completes (c : CallId) (s : State) : Completes b s (execRingAllExpiry c s) := by
  unfold execRingAllExpiry
  split
  · exact .when _ (ringAllNoAnswer_quiet ..)
  · exact .still s

theorem execOverflowExpiry_completes (c : CallId) (s : State) : Completes b s (execOverflowExpiry c s) := by
  unfold execOverflowExpiry
  split
  · exact .when _ (overflowQueued_quiet ..)
  · exact .still s

theorem execRecallExpiry_completes (o : OrbitId) (s : State) : Completes b s (execRecallExpiry o s) := by
  unfold execRecallExpiry
  split
  · exact .when _ (recallExpires_quiet ..)
  · exact .still s

theorem execRecallRingExpiry_completes (c : CallId) (s : State) : Completes b s (execRecallRingExpiry c s) := by
  unfold execRecallRingExpiry
  split
  · exact .when _ (recallRingExpires_quiet ..)
  · exact .still s

theorem execPreludeExpiry_completes (p : PageId) (s : State) : Completes b s (execPreludeExpiry p s) := by
  unfold execPreludeExpiry
  split
  · exact .when _ (preludeEnds_quiet ..)
  · exact .still s

/-- An advance leaves both slots as they are. -/
theorem advance_slots (c : Channel) (now : Tick) : ((c.advance now).slotA, (c.advance now).slotB) = (c.slotA, c.slotB) := by
  unfold Channel.advance
  split
  · rw [Channel.beginPeriod_eq]
  · rfl

/-- A change of a channel keeps the tables when it keeps both slots. -/
theorem tables_changeChannel (s : State) (k : ChannelId) {f : Channel → Channel}
    (hf : ∀ c, ((f c).slotA, (f c).slotB) = (c.slotA, c.slotB)) : tables (changeChannel s k f) = tables s := by
  have slots : mapTable (fun c : Channel => (c.slotA, c.slotB)) (upd s.ag.channels k f) =
      mapTable (fun c : Channel => (c.slotA, c.slotB)) s.ag.channels := mapTable_upd _ _ _ _ hf
  have written : tables (s.modChannel k f) = tables s := congrArg (fun v => ({ slots := v, .. : Image })) slots
  unfold changeChannel
  dsimp only
  split <;> exact written

theorem execCadenceAdvance_completes (k : ChannelId) (s : State) : Completes b s (execCadenceAdvance k s) := by
  obtain ⟨hp, hl⟩ := changeChannel_link s k fun c => c.advance s.now
  have ht := tables_changeChannel s k fun c => advance_slots c s.now
  refine .next ?_
  split
  · exact Steady.finish (.of_tables hp hl ht)
  · exact .refl s

end Events

/-! ## Every command -/

/-- Every command answers a next state, which it reaches in an orderly way. -/
theorem exec_completes (i : Instr) (s : State) : Completes (mayConfigure i) s (exec i s) := by
  cases i
  -- The configuration requests: most write a table and do nothing more.
  case groupSet | announceSet | pickupGroupSet | classSet | directorySet | entrySet | pageGroupSet =>
    refine .request fun s => ?_
    simp only [groupSetOwner, announceSetOwner, pickupGroupSetOwner, classSetOwner, directorySetOwner, entrySetOwner,
      pageGroupSetOwner]
    repeat' split
    any_goals exact .refuse _
    all_goals exact .ok _ .write
  case stationSet => exact .request stationSetOwner_steady
  case memberAdd => exact .request memberAddOwner_steady
  case memberRemove => exact .request memberRemoveOwner_steady
  case beaconSet => exact .request beaconSetOwner_steady
  case cadenceSet => exact .request cadenceSetOwner_steady
  case moduleSet => exact .request moduleSetOwner_steady
  case groupMode => exact .request groupModeOwner_steady
  -- The queries: all but PAGE GROUP QUERY leave the state as it is.
  case stationQuery | callQuery | groupQuery | pickupGroupQuery | orbitQuery | classQuery | directoryQuery | entryQuery |
      pageQuery | busQuery | alertQuery | moduleQuery | zoneQuery =>
    refine .request fun s => ?_
    simp only [stationQueryOwner, callQueryOwner, groupQueryOwner, pickupGroupQueryOwner, orbitQueryOwner, classQueryOwner,
      directoryQueryOwner, entryQueryOwner, pageQueryOwner, busQueryOwner, alertQueryOwner, moduleQueryOwner, zoneQueryOwner,
      partAnswer]
    repeat' split
    any_goals exact .refuse _
    all_goals exact .ok _ (.refl s)
  case pageGroupQuery => exact .request pageGroupQueryOwner_steady
  case storeQuery => exact .request fun s => .ok _ (.refl s)
  -- The other requests.
  case status => exact execStatus_completes ..
  case storeSave => exact .request storeSaveOwner_steady
  case start => exact .request startOwner_steady
  case restart => exact .request restartOwner_steady
  case unknownRequest => exact .request fun _ => .refuse _
  case offHook => exact .request (stationEventOwner_steady offHookAct_steady)
  case onHook => exact .request (stationEventOwner_steady onHookAct_steady)
  case serviceOff => exact .request (stationEventOwner_steady serviceOffAct_steady)
  case serviceOn => exact .request (stationEventOwner_steady serviceOnAct_steady)
  case dndOn => exact .request (stationEventOwner_steady dndOnAct_steady)
  case dndOff => exact .request (stationEventOwner_steady dndOffAct_steady)
  case callOffer => exact .request callOfferOwner_steady
  case callGone => exact .request callGoneOwner_steady
  case memberLogin => exact .request memberLoginOwner_steady
  case memberLogout => exact .request memberLogoutOwner_steady
  case groupPickup | directedPickup | queuePickup | retrieve =>
    refine .request fun s => ?_
    simp only [groupPickupOwner, directedPickupOwner, queuePickupOwner, retrieveOwner]
    repeat' split
    any_goals exact .refuse _
    exact .quiet _ (takeCall_quiet ..)
  case park => exact .request parkOwner_steady
  case page => exact .request pageOwner_steady
  case pageEnd => exact .request pageEndOwner_steady
  case summon => exact .request summonOwner_steady
  case summonHush => exact .request summonHushOwner_steady
  case zoneRestore => exact .request zoneRestoreOwner_steady
  case zoneService => exact .request zoneServiceOwner_steady
  -- The events of the Control Link and the store, and the starts.
  case frameSumError => exact execFrameSumError_completes ..
  case frameGap => exact execFrameGap_completes ..
  case frameLengthError => exact execFrameLengthError_completes ..
  case framerSilence => exact execFramerSilence_completes s
  case frameOverrun => exact execFrameOverrun_completes ..
  case transmitFrameEnd => exact execTransmitFrameEnd_completes s
  case warmRestart => exact execWarmRestart_completes s
  case powerOn => rw [exec_powerOn]; exact .next (coldState_orderly ..)
  case resetPin => rw [exec_resetPin]; exact .next (coldState_orderly ..)
  case saveCompletion => exact execSaveCompletion_completes ..
  -- The expiries and the cadence.
  case wrapupExpiry => exact .when _ ((enterIdle_quiet ..).trans (offer_quiet ..))
  case coverageExpiry => exact execCoverageExpiry_completes ..
  case noAnswerExpiry => exact execNoAnswerExpiry_completes ..
  case ringAllExpiry => exact execRingAllExpiry_completes ..
  case recallRingExpiry => exact execRecallRingExpiry_completes ..
  case overflowExpiry => exact execOverflowExpiry_completes ..
  case announceDelayExpiry => exact .when _ (triggerAnnouncement_quiet ..)
  case debounceExpiry => exact .when _ (beaconOff_quiet ..)
  case recallExpiry => exact execRecallExpiry_completes ..
  case waitTimeout => exact .when _ (endPage_quiet ..)
  case endDeadlineExpiry => exact .when _ (endPage_quiet ..)
  case preludeExpiry => exact execPreludeExpiry_completes ..
  case cadenceAdvance => exact execCadenceAdvance_completes ..
  -- The field line, and the events that change nothing or the counter alone.
  case identifyAnswer => exact execIdentifyAnswer_completes ..
  case routeAnswer => exact execRouteAnswer_completes ..
  case pollAnswer => exact execPollAnswer_completes ..
  case invalidAnswer | answerTimeout | answerGap => exact .next (attemptFails_orderly s)
  case alertSent => exact execAlertSent_completes s
  case fieldLineRestartHoldoff => exact execFieldLineRestartHoldoff_completes s
  case tickCounterAdvance => exact .next ⟨rfl, fun _ => rfl, id, id⟩
  case frameDiscardedAtRestart | strayFieldLineBytes => exact .still s

/-- A step's next state is the one its command completes in. -/
theorem exec_orderly {i : Instr} {s t : State} (h : exec i s = .next t) : Orderly (mayConfigure i) s t := by
  obtain ⟨u, hu, ho⟩ := exec_completes i s
  cases hu.symm.trans h
  exact ho

/-- A step is the command at the front of the queue, or nothing: it keeps what every command keeps of the link. -/
theorem step_keepsLink {s t : State} (h : step s = .next t) :
    (LinkWithinCapacity s → LinkWithinCapacity t) ∧ (TransmitterServesQueues s → TransmitterServesQueues t) := by
  unfold step at h
  split at h
  · cases h; exact ⟨id, id⟩
  · exact ⟨(exec_orderly h).capacity, (exec_orderly h).serves⟩

/-- Settles O14: every command keeps both, and a step is a command or nothing. -/
theorem linkStaysWithinItsLimits : Obligations.LinkStaysWithinItsLimits := by
  unfold Obligations.LinkStaysWithinItsLimits
  exact ⟨fun s t hs h => (step_keepsLink h).1 hs, fun s t hs h => (step_keepsLink h).2 hs⟩

/-- Settles O18: a command that does not configure is orderly without the right to write a table. -/
theorem otherCommandsKeepTheTables : Obligations.OtherCommandsKeepTheTables := by
  unfold Obligations.OtherCommandsKeepTheTables
  intro c s t hc h
  exact (exec_orderly h).tables hc

/-- Settles O2: every command completes, and what completes is orderly. -/
theorem everyCommandAnswersANextState : Obligations.EveryCommandAnswersANextState := by
  unfold Obligations.EveryCommandAnswersANextState
  intro c s
  obtain ⟨t, ht, ho⟩ := exec_completes c s
  exact ⟨t, ht, ho.pending⟩

end Sys2Proof.Machine
end

section
/-!
PROOFS. The transmitter and the reply list: what an IDLE transmitter takes, and how replies and reports are queued (O5, O6).
-/

namespace Sys2Proof.Machine

/-! ## The transmitter's choice -/

section Choice

variable {s : State}

/-- No reply is READY at the head of the list: it is empty, or its head waits. -/
abbrev NoReplyReady (s : State) : Prop := ∀ r, s.cl.replies.head? = some r → r.waiting = true

theorem chooseFrame_reply {r : Reply} {rs : List Reply} (hl : s.cl.replies = r :: rs) (hw : r.waiting = false) :
    chooseFrame s = { s with cl := { s.cl with tx := .sending (.reply r), replies := rs } } := by
  simp [chooseFrame, hl, hw, State.modCl]

theorem chooseFrame_report {n : Report} {ns : List Report} (hn : s.cl.reports = n :: ns) (hw : NoReplyReady s) :
    chooseFrame s = { s with cl := { s.cl with tx := .sending (.report n), reports := ns } } := by
  cases hl : s.cl.replies with
  | nil => simp [chooseFrame, hl, hn, State.modCl]
  | cons r rs => simp [chooseFrame, hl, hn, hw r (by simp [hl]), State.modCl]

theorem chooseFrame_idle (hn : s.cl.reports = []) (hw : NoReplyReady s) :
    chooseFrame s = { s with cl := { s.cl with tx := .idle } } := by
  cases hl : s.cl.replies with
  | nil => simp [chooseFrame, hl, hn, State.modCl]
  | cons r rs => simp [chooseFrame, hl, hn, hw r (by simp [hl]), State.modCl]

theorem finish_busy (h : (∃ f, s.cl.tx = .sending f) ∨ s.cl.restart = .replySent) : finish s = s := by
  unfold finish
  rcases h with ⟨f, hf⟩ | hr
  · simp [hf]
  · split
    · rfl
    · exact if_pos hr

theorem finish_chooses (ht : s.cl.tx = .idle) (hr : s.cl.restart ≠ .replySent) : finish s = chooseFrame s := by
  simp [finish, ht, hr]

/-- A reply in the list stays there or goes out. -/
theorem chooseFrame_reply_kept {q : Reply} (hq : q ∈ s.cl.replies) :
    q ∈ (chooseFrame s).cl.replies ∨ (chooseFrame s).cl.tx = .sending (.reply q) := by
  cases hl : s.cl.replies with
  | nil => simp [hl] at hq
  | cons r rs =>
    cases hw : r.waiting with
    | false =>
      rw [chooseFrame_reply hl hw]
      rw [hl, List.mem_cons] at hq
      rcases hq with rfl | hq
      · exact .inr rfl
      · exact .inl hq
    | true =>
      have waits : NoReplyReady s := fun x hx => by
        rw [hl] at hx
        cases hx
        exact hw
      cases hn : s.cl.reports with
      | nil => rw [chooseFrame_idle hn waits]; exact .inl hq
      | cons n ns => rw [chooseFrame_report hn waits]; exact .inl hq

theorem finish_reply_kept {q : Reply} (hq : q ∈ s.cl.replies) :
    q ∈ (finish s).cl.replies ∨ (finish s).cl.tx = .sending (.reply q) := by
  unfold finish
  split
  · exact .inl hq
  · split
    · exact .inl hq
    · exact chooseFrame_reply_kept hq

end Choice

/-! ## Replies and reports -/

/-- Settles O5: `replied` is the placed reply and the choice of `finish`, which is `chooseFrame` when the transmitter is IDLE. -/
theorem repliesAndReportsAreQueued : Obligations.RepliesAndReportsAreQueued := by
  unfold Obligations.RepliesAndReportsAreQueued
  refine ⟨fun t kind h code fields => ?_, fun s r => ⟨fun hroom => ?_, fun hfull => ?_⟩⟩
  · intro r
    let u : State := { t with cl := { t.cl with replies := t.cl.replies ++ [r] } }
    have placed : replied t kind h code fields = finish u := rfl
    refine ⟨fun hbusy => finish_busy (s := u) hbusy, fun ht hr => ?_, replied_hasReply .., finish_link u⟩
    rw [placed, finish_chooses (s := u) ht hr]
    refine ⟨fun hl => ?_, fun q qs hl hq => ?_, fun q qs n ns hl hq hn => ?_, fun q qs hl hq hn => ?_⟩
    · rw [chooseFrame_reply (s := u) (r := r) (rs := []) (by simp [u, hl]) rfl]
      simp [u, hl]
    · exact chooseFrame_reply (s := u) (by simp [u, hl]) hq
    · exact chooseFrame_report (s := u) hn (by simp [NoReplyReady, u, hl, hq])
    · rw [chooseFrame_idle (s := u) hn (by simp [NoReplyReady, u, hl, hq])]
      simp [u, ht]
  · exact congrArg (fun c => ({ s with cl := c } : State)) (queueReport_room s r hroom)
  · exact congrArg (fun c => ({ s with cl := c } : State)) (queueReport_full s r hfull)

/-! ## The end of a frame -/

/-- The end of any frame but a RESTART's reply is a choice. -/
theorem exec_transmitFrameEnd_chooses {s : State} {f : OutFrame} (ht : s.cl.tx = .sending f)
    (hf : ¬ (s.cl.restart = .decoded ∧ f.isRestartReply = true)) : exec .transmitFrameEnd s = .next (chooseFrame s) := by
  show execTransmitFrameEnd s = _
  simp only [execTransmitFrameEnd, ht, if_neg hf]

theorem exec_transmitFrameEnd_restart {s : State} {f : OutFrame} (ht : s.cl.tx = .sending f) (hr : s.cl.restart = .decoded)
    (hf : f.isRestartReply = true) :
    exec .transmitFrameEnd s = .next { s with cl := { s.cl with tx := .idle, restart := .replySent } } := by
  show execTransmitFrameEnd s = _
  simp only [execTransmitFrameEnd, ht, if_pos (And.intro hr hf), State.modCl]

/-- Settles O6: one `chooseFrame`, by what the two lists hold; after the RESTART reply none. -/
theorem frameEndChoosesTheNextFrame : Obligations.FrameEndChoosesTheNextFrame := by
  unfold Obligations.FrameEndChoosesTheNextFrame
  refine ⟨fun s f ht hf => ?_, fun s r ht hr hk hc => exec_transmitFrameEnd_restart ht hr (by simp [OutFrame.isRestartReply, hk, hc])⟩
  rw [exec_transmitFrameEnd_chooses ht hf]
  exact ⟨fun r rs hl hw => congrArg _ (chooseFrame_reply hl hw), fun n ns hn hw => congrArg _ (chooseFrame_report hn hw),
    fun hn hw => congrArg _ (chooseFrame_idle hn hw)⟩

end Sys2Proof.Machine
end

section
/-!
PROOFS. The requests of the Control Link and the store (O7, O8, O9, O20).
-/

namespace Sys2Proof.Machine

/-! ## STATUS, START and RESTART -/

/-- Settles O7: the reply is made of the state as it stood, and the flag is cleared behind it. -/
theorem statusShowsAndClearsTheLostFlag : Obligations.StatusShowsAndClearsTheLostFlag := by
  unfold Obligations.StatusShowsAndClearsTheLostFlag
  intro h s hr
  obtain ⟨hhunt, hin, hlen⟩ := hr
  have hi : intakeOf s [0x20, h.length, h.tag] = .checked := (intakeOf_hunt _ hhunt).trans hin
  have cleared : execStatus h s = .next (clearLost (request s 0x20 [0] h statusOwner)) :=
    congrArg _ (if_pos ⟨hi, BitVec.eq_of_toNat_eq hlen⟩)
  have taken : request s 0x20 [0] h statusOwner = replied (framerHunt s) 0x20 h .ok (statusFields (framerHunt s)) :=
    request_taken hi (by simp [hlen]) rfl
  rw [taken] at cleared
  exact cleared

/-- Settles O8: the owner looks at the run mode alone. -/
theorem startMovesSetupToRun : Obligations.StartMovesSetupToRun := by
  unfold Obligations.StartMovesSetupToRun
  intro h s hr
  refine ⟨fun hm => ?_, fun hm => ?_⟩
  · have setup : (framerHunt s).running = false := by simp [State.running, framerHunt, State.modCl, hm]
    exact received_taken hr (by simp) (if_neg (by simp [setup]))
  · have run : (framerHunt s).running = true := by simp [State.running, framerHunt, State.modCl, hm]
    exact received_refused hr (by simp) (if_pos run)

theorem abandonSave_idle {s : State} (h : s.isSaving = false) : abandonSave s = s := if_neg (by simp [h])

theorem abandonSave_saving {s : State} (h : s.isSaving = true) :
    abandonSave s = makeReady { s with cs := { s.cs with state := .invalid, last := .abandoned } } .storeFailed [] := if_pos h

/-- Settles O9: the owner stops the framer, then `abandonSave`, which does nothing without a save. -/
theorem restartStopsTheFramerAndAnySave : Obligations.RestartStopsTheFramerAndAnySave := by
  unfold Obligations.RestartStopsTheFramerAndAnySave
  intro h s hr
  let t : State := { framerHunt s with cl := { (framerHunt s).cl with restart := .decoded } }
  have restarts : exec (.restart h) s = .next (replied (abandonSave t) 0x24 h .ok []) := received_taken hr (by simp) rfl
  refine ⟨fun hs => ?_, fun hs => ?_⟩
  · rw [restarts, abandonSave_idle (s := t) hs]
  · rw [restarts, abandonSave_saving (s := t) hs]
    rfl

/-! ## Store saves -/

/-- A received request whose reply waits leaves the owner's state with a WAITING reply. -/
theorem received_waits {s t : State} {h : Header} {n : Nat} {kind : Byte} {lengths : List Nat} {owner : State → Answer}
    (hr : received s h n) (hl : n ∈ lengths) (ho : owner (framerHunt s) = .wait t) :
    (.next (request s kind lengths h owner) : Result) = .next (finish (placeReply t kind h.tag true .ok [])) := by
  obtain ⟨hhunt, hin, rfl⟩ := hr
  simp [request, (intakeOf_hunt _ hhunt).trans hin, hl, ho, answer]

/-- A save that completes in its time does what the read-back sum says. -/
theorem exec_saveCompletion_due {s : State} {copy : Image} {began : Tick} (agree : Bool) (hs : s.cs.state = .saving copy began)
    (h1 : 1 ≤ (s.sct.tick - began).toNat) (h40 : (s.sct.tick - began).toNat ≤ 40) :
    exec (.saveCompletion agree) s = .next (finish (if agree then saveSucceeds s copy else saveFails s)) := by
  show execSaveCompletion agree s = _
  unfold execSaveCompletion
  rw [hs]
  exact congrArg _ (if_pos ⟨h1, h40⟩)

/-- The end of a save: the store takes its new record, the tables and the link's flags stand, and every WAITING reply, made READY,
stands in the list or is on the line. -/
theorem saveSettled (s : State) (store : Cs) (c : Code) (f : List Byte) :
    let u := finish (makeReady { s with cs := store } c f)
    u.cs = store ∧ tables u = tables s ∧ u.cl.lost = s.cl.lost ∧ u.cl.mode = s.cl.mode ∧
      ∀ r, r ∈ s.cl.replies → r.waiting = true →
        { r with waiting := false, code := c, lost := s.cl.lost, fields := f } ∈ u.cl.replies ∨
          u.cl.tx = .sending (.reply { r with waiting := false, code := c, lost := s.cl.lost, fields := f }) :=
  ⟨finish_cs _, tables_finish _, finish_cl_lost _, finish_cl_mode _,
    fun r hr hw => finish_reply_kept (List.mem_map.mpr ⟨r, hr, if_pos hw⟩)⟩

/-- Settles O20: a save begins with the copy, and its completion is `saveSucceeds` or `saveFails` with the reply made READY. -/
theorem storeSavesAreTakenAndSettled : Obligations.StoreSavesAreTakenAndSettled := by
  unfold Obligations.StoreSavesAreTakenAndSettled
  refine ⟨fun h s hr => ⟨fun hs => ?_, badSum_ne _, fun hs => ?_⟩, fun s copy began hs h1 h40 => ⟨?_, ?_⟩⟩
  · have idle : (framerHunt s).isSaving = false := hs
    exact received_waits hr (by simp) (if_neg (by simp [idle]))
  · have saving : (framerHunt s).isSaving = true := hs
    exact received_refused hr (by simp) (if_pos saving)
  · exact ⟨_, exec_saveCompletion_due true hs h1 h40, saveSettled s _ .ok _⟩
  · exact ⟨_, exec_saveCompletion_due false hs h1 h40, saveSettled s _ .storeFailed _⟩

end Sys2Proof.Machine
end

section
/-!
PROOFS. The step, and the invariants right after reset (O1, O13).
-/

namespace Sys2Proof.Machine

/-- Settles O1: `step` reads the queue. -/
theorem stepRunsTheFrontCommand : Obligations.StepRunsTheFrontCommand := by
  unfold Obligations.StepRunsTheFrontCommand
  refine ⟨fun c rest s => rfl, fun s h => ?_⟩
  unfold step
  rw [h]

theorem reset_channel (k : ChannelId) : State.reset.channel k = Channel.stopped Cadence.reset Cadence.reset 0 :=
  Vector.getElem_replicate ..

theorem reset_zone (z : ZoneId) : State.reset.zone z = Zone.reset := Vector.getElem_replicate ..

/-- Settles O13: both lists are empty and STARTED is on the line; every zone is healthy, every channel STOPPED, and the first IDENTIFY
is on the field line. -/
theorem invariantsHoldAtReset : Obligations.InvariantsHoldAtReset := by
  unfold Obligations.InvariantsHoldAtReset
  refine ⟨⟨Nat.zero_le _, Nat.zero_le _⟩, (nomatch ·), fun z => ?_, (nomatch ·), fun k => ?_⟩
  · rw [reset_zone]
    exact Zone.agrees_healthy rfl (by simp [Zone.reset])
  · rw [reset_channel]
    exact agrees_stopped ..

end Sys2Proof.Machine
end

section
/-!
PROOFS. Damaged and discarded frames (O4): what becomes of a frame by the state of the link and by the bytes the framer holds.
-/

namespace Sys2Proof.Machine

/-! ## What becomes of a frame -/

section Intake

variable {s : State}

/-- While a RESTART is under way, or after a length error, every frame is discarded. -/
theorem intakeOf_discarded (h : s.cl.restart ≠ .none ∨ s.cl.framer = .discarding) (first : List Byte) :
    intakeOf s first = .discarded := by
  have all : intake s = .discarded := by
    unfold intake
    split
    · rfl
    · rename_i hr
      exact if_pos (h.resolve_left hr)
  unfold intakeOf
  split
  · exact all
  · rfl

/-- Without a RESTART, and with the framer not discarding, a frame is checked or an overrun. -/
theorem intake_taken (hr : s.cl.restart = .none) (hf : s.cl.framer ≠ .discarding) :
    intake s = if 8 ≤ s.cl.replies.length then .overrun else .checked := by
  simp [intake, hr, hf]

theorem framerHolds_hunt (h : s.cl.framer = .hunt) : framerHolds s = [] := by simp [framerHolds, h]

theorem framerHolds_collecting {held : List Byte} (h : s.cl.framer = .collecting held) : framerHolds s = held := by
  simp [framerHolds, h]

theorem framerContinues_iff {held first : List Byte} (h : s.cl.framer = .collecting held) :
    framerContinues s first = true ↔ held.take first.length = first.take held.length := by
  simp [framerContinues, framerHolds_collecting h]

theorem framerTakes_iff : framerTakes s = true ↔ s.cl.restart = .none ∧ s.cl.framer ≠ .discarding := by
  simp [framerTakes]

end Intake

/-! ## Complete request frames -/

/-- A request frame that is not checked goes no further than `request`, STATUS too. -/
theorem exec_request_unchecked {i : Instr} {kind : Byte} {h : Header} (hr : i.request? = some (kind, h)) {s : State}
    (hi : intakeOf s [kind, h.length, h.tag] ≠ .checked) :
    ∃ lengths owner, exec i s = .next (request s kind lengths h owner) := by
  rcases exec_request i kind h hr with ⟨lengths, owner, he⟩ | ⟨rfl, rfl⟩
  · exact ⟨lengths, owner, he s⟩
  · exact ⟨[0], statusOwner, congrArg _ (if_neg fun hc => hi hc.1)⟩

theorem exec_request_overrun {i : Instr} {kind : Byte} {h : Header} (hr : i.request? = some (kind, h)) {s : State}
    (hi : intakeOf s [kind, h.length, h.tag] = .overrun) :
    exec i s = .next (finish (queueReport (framerHunt s)
      (.linkError .overrun (min (4 + h.length.toNat) 255) (some kind) (some h.tag)))) := by
  obtain ⟨lengths, owner, he⟩ := exec_request_unchecked hr (s := s) (by simp [hi])
  rw [he, request_overrun kind lengths h owner hi]
  rfl

theorem exec_request_discarded {i : Instr} {kind : Byte} {h : Header} (hr : i.request? = some (kind, h)) {s : State}
    (hi : intakeOf s [kind, h.length, h.tag] = .discarded) : exec i s = .next s := by
  obtain ⟨lengths, owner, he⟩ := exec_request_unchecked hr (s := s) (by simp [hi])
  rw [he, request_discarded kind lengths h owner hi]

/-- A request that continues the bytes held is the same request in HUNT. -/
theorem request_framerHunt {s : State} {kind : Byte} {h : Header}
    (hi : intakeOf s [kind, h.length, h.tag] = intakeOf (framerHunt s) [kind, h.length, h.tag])
    (hd : intakeOf s [kind, h.length, h.tag] ≠ .discarded) (lengths : List Nat) (owner : State → Answer) :
    request s kind lengths h owner = request (framerHunt s) kind lengths h owner := by
  unfold request
  rw [← hi]
  cases hs : intakeOf s [kind, h.length, h.tag] with
  | discarded => exact absurd hs hd
  | overrun => rfl
  | checked => rfl

theorem exec_request_framerHunt {i : Instr} {kind : Byte} {h : Header} (hr : i.request? = some (kind, h)) {s : State}
    (hi : intakeOf s [kind, h.length, h.tag] = intakeOf (framerHunt s) [kind, h.length, h.tag])
    (hd : intakeOf s [kind, h.length, h.tag] ≠ .discarded) : exec i s = exec i (framerHunt s) := by
  have same := request_framerHunt hi hd
  rcases exec_request i kind h hr with ⟨lengths, owner, he⟩ | ⟨rfl, rfl⟩
  · rw [he, he, same]
  · show execStatus h s = execStatus h (framerHunt s)
    simp only [execStatus, hi, same]

/-! ## Frames that are no requests -/

section Frames

variable {s : State} {f : List Byte}

theorem exec_frameSumError_discarded (hi : intakeOf s f = .discarded) : exec (.frameSumError f) s = .next s := by
  show execFrameSumError f s = _
  simp only [execFrameSumError, hi]

theorem exec_frameOverrun_discarded (hi : intakeOf s f = .discarded) : exec (.frameOverrun f) s = .next s := by
  show execFrameOverrun f s = _
  simp only [execFrameOverrun, hi]

theorem exec_frameSumError_checked (hi : intakeOf s f = .checked) :
    exec (.frameSumError f) s =
      .next (finish (queueReport (framerHunt s) (.linkError .sum (min f.length 255) f[0]? f[2]?))) := by
  show execFrameSumError f s = _
  simp only [execFrameSumError, hi]
  rfl

theorem exec_frameOverrun_overrun (hi : intakeOf s f = .overrun) :
    exec (.frameOverrun f) s =
      .next (finish (queueReport (framerHunt s) (.linkError .overrun (min f.length 255) f[0]? f[2]?))) := by
  show execFrameOverrun f s = _
  simp only [execFrameOverrun, hi]
  rfl

/-- With a full reply list a frame is an overrun before its sum is checked. -/
theorem exec_frameSumError_overrun (hi : intakeOf s f = .overrun) : exec (.frameSumError f) s = exec (.frameOverrun f) s := by
  show execFrameSumError f s = execFrameOverrun f s
  simp only [execFrameSumError, execFrameOverrun, hi]

theorem exec_frameGap_none {next : Byte} (h : framerTakes s = true → frameInProgress (framerHolds s ++ f) = false) :
    exec (.frameGap f next) s = .next s :=
  congrArg _ (if_neg fun ⟨htakes, hprog⟩ => by simp [h htakes] at hprog)

/-- A gap before any byte has come only begins a frame. -/
theorem exec_frameGap_begins {next : Byte} (ht : framerTakes s = true) (hh : framerHolds s ++ f = []) :
    exec (.frameGap f next) s = .next { s with cl := { s.cl with framer := .collecting [next] } } := by
  show execFrameGap f next s = _
  simp only [execFrameGap, hh, ht, frameInProgress, and_self, if_true]
  rfl

/-- A gap in a frame in progress is reported with the bytes of that frame, and begins a new one. -/
theorem exec_frameGap_reports {next b : Byte} {bs : List Byte} (ht : framerTakes s = true) (hh : framerHolds s ++ f = b :: bs)
    (hp : frameInProgress (b :: bs) = true) :
    exec (.frameGap f next) s =
      .next (finish (queueReport { s with cl := { s.cl with framer := .collecting [next] } }
        (.linkError .gap (min (bs.length + 1) 255) (some b) (b :: bs)[2]?))) := by
  show execFrameGap f next s = _
  simp only [execFrameGap, hh, ht, hp, and_self, if_true]
  rfl

theorem exec_frameLengthError_none {k n : Byte} (h : framerTakes s = true → framerContinues s [k, n] = false) :
    exec (.frameLengthError k n) s = .next s :=
  congrArg _ (if_neg fun ⟨htakes, hcont⟩ => by simp [h htakes] at hcont)

theorem exec_frameLengthError_reports {k n : Byte} (ht : framerTakes s = true) (hc : framerContinues s [k, n] = true) :
    exec (.frameLengthError k n) s =
      .next (finish (queueReport { s with cl := { s.cl with framer := .discarding } } (.linkError .length 2 (some k) none))) :=
  congrArg _ (if_pos ⟨ht, hc⟩)

end Frames

/-! ## The clauses, by the state of the link -/

/-- While frames are discarded without a trace no command of the framer changes anything. -/
theorem frames_leave_no_trace {s : State} (h : s.cl.restart ≠ .none ∨ s.cl.framer = .discarding) :
    (∀ (i : Instr) (kind : Byte) (h : Header), i.request? = some (kind, h) → exec i s = .next s) ∧
    (∀ f, exec (.frameSumError f) s = .next s ∧ exec (.frameOverrun f) s = .next s) ∧
    (∀ f b, exec (.frameGap f b) s = .next s) ∧ (∀ k n, exec (.frameLengthError k n) s = .next s) := by
  have discards := intakeOf_discarded h
  have idle : ¬ framerTakes s = true := fun ht => by
    obtain ⟨hr, hf⟩ := framerTakes_iff.mp ht
    exact h.elim (absurd hr) hf
  exact ⟨fun i kind h hi => exec_request_discarded hi (discards _),
    fun f => ⟨exec_frameSumError_discarded (discards _), exec_frameOverrun_discarded (discards _)⟩,
    fun f b => exec_frameGap_none fun ht => absurd ht idle, fun k n => exec_frameLengthError_none fun ht => absurd ht idle⟩

/-- With bytes held a request that continues them is taken as in HUNT, and one that does not is no event. -/
theorem request_with_bytes_held {s : State} {held : List Byte} (hr : s.cl.restart = .none) (hf : s.cl.framer = .collecting held)
    {i : Instr} {kind : Byte} {h : Header} (hi : i.request? = some (kind, h)) :
    (held.take 3 = [kind, h.length, h.tag].take held.length → exec i s = exec i (framerHunt s)) ∧
      (held.take 3 ≠ [kind, h.length, h.tag].take held.length → exec i s = .next s) := by
  have hd : s.cl.framer ≠ .discarding := by simp [hf]
  refine ⟨fun hc => ?_, fun hc => ?_⟩
  · have here := intakeOf_continues ((framerContinues_iff (first := [kind, h.length, h.tag]) hf).mpr hc)
    have hunt : intakeOf (framerHunt s) [kind, h.length, h.tag] = intake s :=
      (intakeOf_hunt _ rfl).trans (intake_framerHunt hd)
    refine exec_request_framerHunt hi (here.trans hunt.symm) ?_
    rw [here, intake_taken hr hd]
    split <;> simp
  · exact exec_request_discarded hi
      (intakeOf_other (Bool.eq_false_iff.mpr fun e => hc ((framerContinues_iff (first := [kind, h.length, h.tag]) hf).mp e)))

/-- Settles O4: what `intakeOf` and the framer say of the frame picks the lemma for each command. -/
theorem damagedAndDiscardedFrames : Obligations.DamagedAndDiscardedFrames := by
  unfold Obligations.DamagedAndDiscardedFrames
  refine ⟨⟨fun i kind h s hi hc ho => exec_request_overrun hi ((intakeOf_continues hc).trans ho), fun f s hc ho => ?_,
    fun s h => frames_leave_no_trace h, fun f s => rfl⟩, fun s held hr hf => ?_, fun s hr => ?_⟩
  · have full := (intakeOf_continues hc).trans ho
    exact ⟨exec_frameOverrun_overrun full, exec_frameSumError_overrun full⟩
  · have holds := framerHolds_collecting hf
    refine ⟨fun i kind h hi => request_with_bytes_held hr hf hi, fun f hne => ?_, fun k n hne => ?_, fun f next hp => ?_⟩
    · have other := intakeOf_other (Bool.eq_false_iff.mpr fun e => hne ((framerContinues_iff hf).mp e))
      exact ⟨exec_frameSumError_discarded other, exec_frameOverrun_discarded other⟩
    · exact exec_frameLengthError_none fun _ =>
        Bool.eq_false_iff.mpr fun e => hne ((framerContinues_iff (first := [k, n]) hf).mp e)
    · exact exec_frameGap_none fun _ => by rw [holds]; exact hp
  · have takes (hf : s.cl.framer ≠ .discarding) : framerTakes s = true := framerTakes_iff.mpr ⟨hr, hf⟩
    refine ⟨fun f hf hc hroom => ?_, fun next hf => ?_, fun b f next hf hp => ?_, fun b bs f next hf hp => ?_,
      fun k n hf hc => exec_frameLengthError_reports (takes hf) hc, fun hf => congrArg _ (if_pos hf)⟩
    · refine exec_frameSumError_checked ((intakeOf_continues hc).trans ?_)
      rw [intake_taken hr hf, if_neg (Nat.not_le.mpr hroom)]
    · exact exec_frameGap_begins (takes (by simp [hf])) (by rw [framerHolds_hunt hf]; rfl)
    · exact exec_frameGap_reports (takes (by simp [hf])) (by rw [framerHolds_hunt hf]; rfl) hp
    · have len : bs.length + 1 + f.length = (bs ++ f).length + 1 := by rw [List.length_append, Nat.add_right_comm]
      rw [len]
      exact exec_frameGap_reports (takes (by simp [hf])) (by rw [framerHolds_collecting hf]; rfl) hp

end Sys2Proof.Machine
end

section
/-!
PROOFS. STORE QUERY (O21): one reply for every state of the store, whose first and last fields the store state fixes.
-/

namespace Sys2Proof.Machine

theorem encSaveElapsed_saving {s : State} {copy : Image} {began : Tick} (hs : s.cs.state = .saving copy began) :
    encSaveElapsed s = enc16 (s.sct.tick - began).toNat := by
  simp only [encSaveElapsed, hs]
  rfl

theorem encSaveElapsed_idle {s : State} (hs : ∀ copy began, s.cs.state ≠ .saving copy began) :
    encSaveElapsed s = [0xFF, 0xFF] := by
  unfold encSaveElapsed
  split
  · next saving => exact absurd saving (hs _ _)
  · rfl

/-- A received STORE QUERY changes nothing but the link, and its reply reads the store as it stood (R183). -/
theorem exec_storeQuery_received {h : Header} {s : State} (hr : received s h 0) :
    exec (.storeQuery h) s = .next (replied (framerHunt s) 0x1F h .ok
      ([s.cs.state.code] ++ enc16 s.cs.count.toNat ++ [s.cs.last.code] ++ encSaveElapsed s)) :=
  received_taken hr (by simp) rfl

/-- Settles O21: by the store state, which fixes the state byte and the bytes of the elapsed ticks. -/
theorem storeQueryGivesTheStore : Obligations.StoreQueryGivesTheStore := by
  unfold Obligations.StoreQueryGivesTheStore
  intro h s hr
  refine ⟨fun copy began saving => ?_, fun valid => ?_, fun invalid => ?_⟩
  · rw [exec_storeQuery_received hr, encSaveElapsed_saving saving, saving]
    rfl
  · rw [exec_storeQuery_received hr, encSaveElapsed_idle (by simp [valid]), valid]
    rfl
  · rw [exec_storeQuery_received hr, encSaveElapsed_idle (by simp [invalid]), invalid]
    rfl

end Sys2Proof.Machine
end

section
/-!
PROOFS. Request frames (O3): what the fields of 11.2, a body and a frame spell, they read back (R185, R186, R166).
-/

namespace Sys2Proof.Machine

/-! ## Fields -/

/-- A two-byte number is its two bytes, most significant byte first. -/
@[simp] theorem half_of_its_bytes (x : Half) : x.extractLsb' 8 8 ++ x.extractLsb' 0 8 = x :=
  (BitVec.extractLsb'_append_extractLsb'_eq_extractLsb' rfl).trans BitVec.extractLsb'_eq_self

/-- A zone set is its six bytes, zone 0 the lowest bit of the last. -/
@[simp] theorem zones_of_their_bytes (x : BitVec 48) :
    x.extractLsb' 40 8 ++ x.extractLsb' 32 8 ++ x.extractLsb' 24 8 ++ x.extractLsb' 16 8 ++ x.extractLsb' 8 8 ++
      x.extractLsb' 0 8 = x := by
  have join {s t n : Nat} (above : t = s + 8) : x.extractLsb' t n ++ x.extractLsb' s 8 = x.extractLsb' s (n + 8) :=
    BitVec.extractLsb'_append_extractLsb'_eq_extractLsb' above
  have whole : x.extractLsb' 40 8 ++ x.extractLsb' 32 8 ++ x.extractLsb' 24 8 ++ x.extractLsb' 16 8 ++ x.extractLsb' 8 8 ++
      x.extractLsb' 0 8 = x.extractLsb' 0 (8 + 8 + 8 + 8 + 8 + 8) := by
    rw [join rfl, join rfl, join rfl, join rfl, join rfl]
  exact whole.trans BitVec.extractLsb'_eq_self

/-- A long query of a legal length carries its part number as its second byte, or is one byte long. -/
theorem length_partBytes {h : Header} (hl : h.length.toNat ∈ [1, 2]) (x part : Byte) :
    ([x] ++ partBytes h part).length = h.length.toNat := by
  unfold partBytes
  split <;> simp at hl ⊢ <;> bv_omega

/-- The second byte of a long query is its part number: a query of one byte asks for part 0 (R186). -/
theorem partBytes_second {h : Header} {part : Byte} (hl : h.length.toNat ∈ [1, 2]) (hp : partByte h part = true) (x : Byte) :
    ([x] ++ partBytes h part).getD 1 0 = part := by
  unfold partBytes
  split
  · rfl
  · next short =>
    have one : h.length = 1 := by simp at hl; bv_omega
    have zero : part = 0 := by simpa [partByte, one] using hp
    exact zero.symm

/-- An event byte that names one of the events 1 to 5 is its row's code. -/
theorem eventByte_named {n : Nat} {e : Byte} (hn : n ≠ 0) (he : eventByte n e = true) : e.toNat = n := by
  simpa [eventByte, hn] using he

/-- The first row carries the event 0 and the bytes that name no event (assumption 5). -/
theorem stationEventOf_offHook {e : Byte} (he : eventByte 0 e = true) (h : Header) (station : Half) :
    stationEventOf h station e = .offHook h station e := by
  have outside : e.toNat = 0 ∨ 5 < e.toNat := by simpa [eventByte] using he
  unfold stationEventOf
  split
  case h_6 => rfl
  all_goals omega

/-! ## Frames -/

theorem frameSum_sumByte (bs : List Byte) : frameSum (bs ++ [sumByte bs]) = 0 := by
  simp [frameSum, sumByte]

/-- A frame spelled with a body of at most 60 bytes is complete, its sum is good, and it carries that body. -/
theorem commandOfFrame_frameBytes {body : List Byte} (hl : body.length ≤ 60) (kind tag : Byte) :
    commandOfFrame (frameBytes kind tag body) =
      some (requestOfBody kind { tag := tag, length := BitVec.ofNat 8 body.length } fun k => body.getD k 0) := by
  have len : (BitVec.ofNat 8 body.length).toNat = body.length := by
    rw [BitVec.toNat_ofNat]
    omega
  have good : frameSum (frameBytes kind tag body) = 0 := frameSum_sumByte _
  simp only [frameBytes, List.cons_append] at good ⊢
  simp [commandOfFrame, good, len, hl]

/-! ## Bodies -/

/-- A request of a kind that table 11.2 does not name has no legal length. -/
theorem unknownRequest_no_legalLength {h : Header} {kind : Byte} (hf : (Instr.unknownRequest h kind).fieldsOk = true) :
    ¬ (Instr.unknownRequest h kind).legalLength = true := by
  have unnamed : requestLengths kind = none := by simpa [Instr.fieldsOk] using hf
  simp [Instr.legalLength, Instr.request?, unnamed]

/-- The body of a request of a legal length is as long as its header says: a long query's with or without the part number,
every other one's in the one length of its kind. -/
theorem length_bodyOfRequest {i : Instr} {kind : Byte} {h : Header} (hr : i.request? = some (kind, h)) (hf : i.fieldsOk = true)
    (hl : i.legalLength = true) : (bodyOfRequest i).length = h.length.toNat := by
  cases i <;> cases hr
  case unknownRequest => exact absurd hl (unknownRequest_no_legalLength hf)
  case callQuery | groupQuery | pickupGroupQuery | pageQuery => exact length_partBytes (legalLength_mem rfl rfl hl) _ _
  all_goals exact (List.mem_singleton.mp (legalLength_mem rfl rfl hl)).symm

/-- The body of a request of a legal length reads back as that request: a long query by its part number, a STATION EVENT by its
event byte, every other request field by field at the offsets of table 11.2. -/
theorem requestOfBody_bodyOfRequest {i : Instr} {kind : Byte} {h : Header} (hr : i.request? = some (kind, h))
    (hf : i.fieldsOk = true) (hl : i.legalLength = true) :
    requestOfBody kind h (fun k => (bodyOfRequest i).getD k 0) = i := by
  cases i <;> cases hr
  case unknownRequest => exact absurd hl (unknownRequest_no_legalLength hf)
  case callQuery | groupQuery | pickupGroupQuery | pageQuery =>
    exact congrArg _ (partBytes_second (legalLength_mem rfl rfl hl) hf _)
  case offHook => simpa [requestOfBody, bodyOfRequest, halfAt, halfBytes] using stationEventOf_offHook hf ..
  case onHook | serviceOff | serviceOn | dndOn | dndOff =>
    have named := eventByte_named (by decide) hf
    simp [requestOfBody, bodyOfRequest, halfAt, halfBytes, stationEventOf, named]
  all_goals simp [requestOfBody, bodyOfRequest, halfAt, halfBytes, zonesAt, zoneBytes]

/-- Settles O3: the frame carries the body, which is as long as the header says and reads back as the request. -/
theorem requestFramesDecodeToTheirRequests : Obligations.RequestFramesDecodeToTheirRequests := by
  unfold Obligations.RequestFramesDecodeToTheirRequests
  intro i f hw hl hframe
  obtain ⟨hhead, hf⟩ : i.headerOk = true ∧ i.fieldsOk = true := by simpa [Instr.wellFormed] using hw
  unfold frameOfRequest at hframe
  split at hframe
  · next kind h hr =>
    have len := length_bodyOfRequest hr hf hl
    have fits : h.length.toNat ≤ 60 := by simpa [Instr.headerOk, hr] using hhead
    obtain rfl := Option.some.inj hframe
    rw [commandOfFrame_frameBytes (len ▸ fits), len, BitVec.ofNat_toNat, BitVec.setWidth_eq,
      requestOfBody_bodyOfRequest hr hf hl]
  · cases hframe

end Sys2Proof.Machine
end
